-- ==== Sys2Proof/Word.lean ====
section
/-! DEFINITION. The two widths of the machine (`spec/00_scope.md` R2: `XLEN8`, `XLEN16`).
Everything the spec calls a byte is a `Byte`; every pair, address, `PC`, `SP` and `cycle_count` is a `Word`.
Arithmetic on a `Word` is the wrapping arithmetic of `BitVec`, which is the "mod 65536" the rules write. -/
namespace Sys2Proof

/-- 8 bits: a register half, a memory cell, the flags byte, the `opcode` latch (R2 `XLEN8`). -/
abbrev Byte := BitVec 8

/-- 16 bits: a register pair, `PC`, `SP`, `cycle_count`, an address (R2 `XLEN16`). -/
abbrev Word := BitVec 16

end Sys2Proof
end

