-- ==== Sys2Proof/Machine/Params.lean ====
section
/-! DEFINITION. The parameters of `spec/00_scope.md` R3 that concern the core as it runs, not its reset values:
the flag positions and the cost of a handler with two operand accesses.  They are arguments of reset
(`ResetParams`, `Config.lean`); a core keeps the ones it was built with (`State.params`), so every meaning and
every statement holds for all of them. -/
namespace Sys2Proof.Machine

/-- R16: four named bits are four bits (two flags at one bit are no positions; assumption 21). -/
def distinctPositions (z n h c : Fin 8) : Bool :=
  decide (z ≠ n) && decide (z ≠ h) && decide (z ≠ c) && decide (n ≠ h) && decide (n ≠ c) && decide (h ≠ c)

/-- `FLAG_POS_Z`, `FLAG_POS_N`, `FLAG_POS_H`, `FLAG_POS_C` (R3, R16, D3): bit indexes of `F`, no two alike. -/
structure FlagPositions where
  z : Fin 8
  n : Fin 8
  h : Fin 8
  c : Fin 8
  distinct : distinctPositions z n h c = true
  deriving DecidableEq, Repr

/-- The defaults 7, 6, 5, 4 of R3 (D3; DESIGN CHOICE, assumption 4). -/
def FlagPositions.standard : FlagPositions := ⟨7, 6, 5, 4, by decide⟩

/-- The parameters a core runs with. -/
structure CoreParams where
  /-- `FLAG_POS_*` -/
  flagPos : FlagPositions
  /-- `CYC_MEM2`, the cost of `INC (HL)`, `DEC (HL)` and `LD (HL),d8` (R85, D12) -/
  cycMem2 : Word
  deriving DecidableEq, Repr

/-- The defaults of R3; `CYC_MEM2 = 8` is D12 (DESIGN CHOICE, assumption 5). -/
def CoreParams.standard : CoreParams := ⟨FlagPositions.standard, 8#16⟩

end Sys2Proof.Machine
end

