-- ==== Sys2Proof/Config.lean ====
section
/-! DEFINITION. The constants the spec fixes (`spec/00_scope.md` R2) and the reset parameters it leaves to
the implementation, all of R3's list (R3).  The machine has no free value: the spec states every result for
every operand. -/
namespace Sys2Proof

/-- `MEM_BYTES` (R2, R24, R40): the whole address space. -/
abbrev memBytes : Nat := 65536

/-- The size of the boot overlay, addresses `0x0000..0x00FF` (R2, R41). -/
abbrev bootBytes : Nat := 256

/-- The size of the cartridge ROM region, addresses `0x0000..0x7FFF` (R2, R41). -/
abbrev romBytes : Nat := 32768

/-- R41, first range: the boot ROM overlay.  A label on addresses; no access behaves differently in it. -/
def inBootOverlay (a : Word) : Bool := decide (a.toNat < bootBytes)

/-- R41, second range: the cartridge ROM region (the overlay lies inside it).  A label only (R43). -/
def inCartridgeRom (a : Word) : Bool := decide (a.toNat < romBytes)

/-- R41, third range: general read/write memory, `0x8000..0xFFFF`. -/
def inRam (a : Word) : Bool := decide (romBytes ≤ a.toNat)

/-- R3, R184: what the host hands to reset.  The defaults of the register parameters, of `INIT_FILL`, of the
flag positions and of `CYC_MEM2` are the spec's (D9, D10, D3, D12).  R3 gives the two images no default; the
model's default is an overlay of 256 zero bytes and no cartridge byte, the "default reset state" of
`spec/95_test_vectors.md` (DESIGN CHOICE, assumption 2). -/
structure ResetParams where
  /-- `BOOT_IMAGE` -/
  bootImage : List Byte := List.replicate bootBytes 0x00#8
  /-- `CART_IMAGE`; its length is `CART_SIZE` -/
  cartImage : List Byte := []
  /-- `INIT_FILL` -/
  initFill : Byte := 0x00#8
  /-- `RESET_PC` -/
  resetPc : Word := 0x0000#16
  /-- `RESET_SP` -/
  resetSp : Word := 0x0000#16
  /-- `RESET_AF` -/
  resetAf : Word := 0x0000#16
  /-- `RESET_BC` -/
  resetBc : Word := 0x0000#16
  /-- `RESET_DE` -/
  resetDe : Word := 0x0000#16
  /-- `RESET_HL` -/
  resetHl : Word := 0x0000#16
  /-- `FLAG_POS_Z`, `FLAG_POS_N`, `FLAG_POS_H`, `FLAG_POS_C` -/
  flagPos : Machine.FlagPositions := Machine.CoreParams.standard.flagPos
  /-- `CYC_MEM2` -/
  cycMem2 : Word := Machine.CoreParams.standard.cycMem2
  deriving DecidableEq, Repr

/-- The parameters at their defaults (R3). -/
def ResetParams.standard : ResetParams := {}

end Sys2Proof
end

