-- ==== Sys2Proof/Syntax.lean ====
section
/-! DEFINITION. The instruction set as syntax: the nameable registers, the operands and assembly terms of
`spec/30_encoding.md` R72, and `Instr`, one constructor per row of `spec/opcode_table.json` (R67). -/
namespace Sys2Proof

/-- The register halves an operand code can name (R63).  `F` has no code (R13). -/
inductive Reg8 where
  | b | c | d | e | h | l | a
  deriving DecidableEq, Repr

/-- The ALU operations in the order of their codes (R64). -/
inductive AluOp where
  | add | adc | sub | sbc | and | xor | or | cp
  deriving DecidableEq, Repr

/-- `operand, dst, src := B | C | D | E | H | L | A | (HL) | d8-literal` (R72). -/
inductive Operand where
  | reg (r : Reg8)
  | atHL
  | d8 (v : Byte)
  deriving DecidableEq, Repr

/-- `instruction := mnemonic operands` (R72).  Some terms are no instruction (`Asm.wf`). -/
inductive Asm where
  /-- `LD dst,src` -/
  | ld (dst src : Operand)
  /-- `INC operand` -/
  | inc (operand : Operand)
  /-- `DEC operand` -/
  | dec (operand : Operand)
  /-- `ADD|ADC|SUB|SBC|AND|XOR|OR|CP A,operand` -/
  | alu (op : AluOp) (src : Operand)
  deriving DecidableEq, Repr

/-- One constructor per defined opcode byte (R67); an immediate form carries its `d8` (R65). -/
inductive Instr where
  /-- `INC B` (R101) -/
  | inc_B
  /-- `DEC B` (R103) -/
  | dec_B
  /-- `LD B,d8` (R94) -/
  | ld_B_d8 (d8 : Byte)
  /-- `INC C` (R101) -/
  | inc_C
  /-- `DEC C` (R103) -/
  | dec_C
  /-- `LD C,d8` (R94) -/
  | ld_C_d8 (d8 : Byte)
  /-- `INC D` (R101) -/
  | inc_D
  /-- `DEC D` (R103) -/
  | dec_D
  /-- `LD D,d8` (R94) -/
  | ld_D_d8 (d8 : Byte)
  /-- `INC E` (R101) -/
  | inc_E
  /-- `DEC E` (R103) -/
  | dec_E
  /-- `LD E,d8` (R94) -/
  | ld_E_d8 (d8 : Byte)
  /-- `INC H` (R101) -/
  | inc_H
  /-- `DEC H` (R103) -/
  | dec_H
  /-- `LD H,d8` (R94) -/
  | ld_H_d8 (d8 : Byte)
  /-- `INC L` (R101) -/
  | inc_L
  /-- `DEC L` (R103) -/
  | dec_L
  /-- `LD L,d8` (R94) -/
  | ld_L_d8 (d8 : Byte)
  /-- `INC (HL)` (R102) -/
  | inc_atHL
  /-- `DEC (HL)` (R104) -/
  | dec_atHL
  /-- `LD (HL),d8` (R95) -/
  | ld_atHL_d8 (d8 : Byte)
  /-- `INC A` (R101) -/
  | inc_A
  /-- `DEC A` (R103) -/
  | dec_A
  /-- `LD A,d8` (R94) -/
  | ld_A_d8 (d8 : Byte)
  /-- `LD B,B` (R91) -/
  | ld_B_B
  /-- `LD B,C` (R91) -/
  | ld_B_C
  /-- `LD B,D` (R91) -/
  | ld_B_D
  /-- `LD B,E` (R91) -/
  | ld_B_E
  /-- `LD B,H` (R91) -/
  | ld_B_H
  /-- `LD B,L` (R91) -/
  | ld_B_L
  /-- `LD B,(HL)` (R92) -/
  | ld_B_atHL
  /-- `LD B,A` (R91) -/
  | ld_B_A
  /-- `LD C,B` (R91) -/
  | ld_C_B
  /-- `LD C,C` (R91) -/
  | ld_C_C
  /-- `LD C,D` (R91) -/
  | ld_C_D
  /-- `LD C,E` (R91) -/
  | ld_C_E
  /-- `LD C,H` (R91) -/
  | ld_C_H
  /-- `LD C,L` (R91) -/
  | ld_C_L
  /-- `LD C,(HL)` (R92) -/
  | ld_C_atHL
  /-- `LD C,A` (R91) -/
  | ld_C_A
  /-- `LD D,B` (R91) -/
  | ld_D_B
  /-- `LD D,C` (R91) -/
  | ld_D_C
  /-- `LD D,D` (R91) -/
  | ld_D_D
  /-- `LD D,E` (R91) -/
  | ld_D_E
  /-- `LD D,H` (R91) -/
  | ld_D_H
  /-- `LD D,L` (R91) -/
  | ld_D_L
  /-- `LD D,(HL)` (R92) -/
  | ld_D_atHL
  /-- `LD D,A` (R91) -/
  | ld_D_A
  /-- `LD E,B` (R91) -/
  | ld_E_B
  /-- `LD E,C` (R91) -/
  | ld_E_C
  /-- `LD E,D` (R91) -/
  | ld_E_D
  /-- `LD E,E` (R91) -/
  | ld_E_E
  /-- `LD E,H` (R91) -/
  | ld_E_H
  /-- `LD E,L` (R91) -/
  | ld_E_L
  /-- `LD E,(HL)` (R92) -/
  | ld_E_atHL
  /-- `LD E,A` (R91) -/
  | ld_E_A
  /-- `LD H,B` (R91) -/
  | ld_H_B
  /-- `LD H,C` (R91) -/
  | ld_H_C
  /-- `LD H,D` (R91) -/
  | ld_H_D
  /-- `LD H,E` (R91) -/
  | ld_H_E
  /-- `LD H,H` (R91) -/
  | ld_H_H
  /-- `LD H,L` (R91) -/
  | ld_H_L
  /-- `LD H,(HL)` (R92) -/
  | ld_H_atHL
  /-- `LD H,A` (R91) -/
  | ld_H_A
  /-- `LD L,B` (R91) -/
  | ld_L_B
  /-- `LD L,C` (R91) -/
  | ld_L_C
  /-- `LD L,D` (R91) -/
  | ld_L_D
  /-- `LD L,E` (R91) -/
  | ld_L_E
  /-- `LD L,H` (R91) -/
  | ld_L_H
  /-- `LD L,L` (R91) -/
  | ld_L_L
  /-- `LD L,(HL)` (R92) -/
  | ld_L_atHL
  /-- `LD L,A` (R91) -/
  | ld_L_A
  /-- `LD (HL),B` (R93) -/
  | ld_atHL_B
  /-- `LD (HL),C` (R93) -/
  | ld_atHL_C
  /-- `LD (HL),D` (R93) -/
  | ld_atHL_D
  /-- `LD (HL),E` (R93) -/
  | ld_atHL_E
  /-- `LD (HL),H` (R93) -/
  | ld_atHL_H
  /-- `LD (HL),L` (R93) -/
  | ld_atHL_L
  /-- `LD (HL),A` (R93) -/
  | ld_atHL_A
  /-- `LD A,B` (R91) -/
  | ld_A_B
  /-- `LD A,C` (R91) -/
  | ld_A_C
  /-- `LD A,D` (R91) -/
  | ld_A_D
  /-- `LD A,E` (R91) -/
  | ld_A_E
  /-- `LD A,H` (R91) -/
  | ld_A_H
  /-- `LD A,L` (R91) -/
  | ld_A_L
  /-- `LD A,(HL)` (R92) -/
  | ld_A_atHL
  /-- `LD A,A` (R91) -/
  | ld_A_A
  /-- `ADD A,B` (R111) -/
  | add_A_B
  /-- `ADD A,C` (R111) -/
  | add_A_C
  /-- `ADD A,D` (R111) -/
  | add_A_D
  /-- `ADD A,E` (R111) -/
  | add_A_E
  /-- `ADD A,H` (R111) -/
  | add_A_H
  /-- `ADD A,L` (R111) -/
  | add_A_L
  /-- `ADD A,(HL)` (R112) -/
  | add_A_atHL
  /-- `ADD A,A` (R111) -/
  | add_A_A
  /-- `ADC A,B` (R114) -/
  | adc_A_B
  /-- `ADC A,C` (R114) -/
  | adc_A_C
  /-- `ADC A,D` (R114) -/
  | adc_A_D
  /-- `ADC A,E` (R114) -/
  | adc_A_E
  /-- `ADC A,H` (R114) -/
  | adc_A_H
  /-- `ADC A,L` (R114) -/
  | adc_A_L
  /-- `ADC A,(HL)` (R115) -/
  | adc_A_atHL
  /-- `ADC A,A` (R114) -/
  | adc_A_A
  /-- `SUB A,B` (R117) -/
  | sub_A_B
  /-- `SUB A,C` (R117) -/
  | sub_A_C
  /-- `SUB A,D` (R117) -/
  | sub_A_D
  /-- `SUB A,E` (R117) -/
  | sub_A_E
  /-- `SUB A,H` (R117) -/
  | sub_A_H
  /-- `SUB A,L` (R117) -/
  | sub_A_L
  /-- `SUB A,(HL)` (R118) -/
  | sub_A_atHL
  /-- `SUB A,A` (R117) -/
  | sub_A_A
  /-- `SBC A,B` (R120) -/
  | sbc_A_B
  /-- `SBC A,C` (R120) -/
  | sbc_A_C
  /-- `SBC A,D` (R120) -/
  | sbc_A_D
  /-- `SBC A,E` (R120) -/
  | sbc_A_E
  /-- `SBC A,H` (R120) -/
  | sbc_A_H
  /-- `SBC A,L` (R120) -/
  | sbc_A_L
  /-- `SBC A,(HL)` (R121) -/
  | sbc_A_atHL
  /-- `SBC A,A` (R120) -/
  | sbc_A_A
  /-- `AND A,B` (R131) -/
  | and_A_B
  /-- `AND A,C` (R131) -/
  | and_A_C
  /-- `AND A,D` (R131) -/
  | and_A_D
  /-- `AND A,E` (R131) -/
  | and_A_E
  /-- `AND A,H` (R131) -/
  | and_A_H
  /-- `AND A,L` (R131) -/
  | and_A_L
  /-- `AND A,(HL)` (R132) -/
  | and_A_atHL
  /-- `AND A,A` (R131) -/
  | and_A_A
  /-- `XOR A,B` (R134) -/
  | xor_A_B
  /-- `XOR A,C` (R134) -/
  | xor_A_C
  /-- `XOR A,D` (R134) -/
  | xor_A_D
  /-- `XOR A,E` (R134) -/
  | xor_A_E
  /-- `XOR A,H` (R134) -/
  | xor_A_H
  /-- `XOR A,L` (R134) -/
  | xor_A_L
  /-- `XOR A,(HL)` (R135) -/
  | xor_A_atHL
  /-- `XOR A,A` (R134) -/
  | xor_A_A
  /-- `OR A,B` (R137) -/
  | or_A_B
  /-- `OR A,C` (R137) -/
  | or_A_C
  /-- `OR A,D` (R137) -/
  | or_A_D
  /-- `OR A,E` (R137) -/
  | or_A_E
  /-- `OR A,H` (R137) -/
  | or_A_H
  /-- `OR A,L` (R137) -/
  | or_A_L
  /-- `OR A,(HL)` (R138) -/
  | or_A_atHL
  /-- `OR A,A` (R137) -/
  | or_A_A
  /-- `CP A,B` (R123) -/
  | cp_A_B
  /-- `CP A,C` (R123) -/
  | cp_A_C
  /-- `CP A,D` (R123) -/
  | cp_A_D
  /-- `CP A,E` (R123) -/
  | cp_A_E
  /-- `CP A,H` (R123) -/
  | cp_A_H
  /-- `CP A,L` (R123) -/
  | cp_A_L
  /-- `CP A,(HL)` (R124) -/
  | cp_A_atHL
  /-- `CP A,A` (R123) -/
  | cp_A_A
  /-- `ADD A,d8` (R113) -/
  | add_A_d8 (d8 : Byte)
  /-- `ADC A,d8` (R116) -/
  | adc_A_d8 (d8 : Byte)
  /-- `SUB A,d8` (R119) -/
  | sub_A_d8 (d8 : Byte)
  /-- `SBC A,d8` (R122) -/
  | sbc_A_d8 (d8 : Byte)
  /-- `AND A,d8` (R133) -/
  | and_A_d8 (d8 : Byte)
  /-- `XOR A,d8` (R136) -/
  | xor_A_d8 (d8 : Byte)
  /-- `OR A,d8` (R139) -/
  | or_A_d8 (d8 : Byte)
  /-- `CP A,d8` (R125) -/
  | cp_A_d8 (d8 : Byte)
  deriving DecidableEq, Repr

/-- The mnemonic and operands of an instruction, as R67's map spells them. -/
def Instr.asm : Instr → Asm
  | .inc_B => .inc (.reg .b)
  | .dec_B => .dec (.reg .b)
  | .ld_B_d8 d8 => .ld (.reg .b) (.d8 d8)
  | .inc_C => .inc (.reg .c)
  | .dec_C => .dec (.reg .c)
  | .ld_C_d8 d8 => .ld (.reg .c) (.d8 d8)
  | .inc_D => .inc (.reg .d)
  | .dec_D => .dec (.reg .d)
  | .ld_D_d8 d8 => .ld (.reg .d) (.d8 d8)
  | .inc_E => .inc (.reg .e)
  | .dec_E => .dec (.reg .e)
  | .ld_E_d8 d8 => .ld (.reg .e) (.d8 d8)
  | .inc_H => .inc (.reg .h)
  | .dec_H => .dec (.reg .h)
  | .ld_H_d8 d8 => .ld (.reg .h) (.d8 d8)
  | .inc_L => .inc (.reg .l)
  | .dec_L => .dec (.reg .l)
  | .ld_L_d8 d8 => .ld (.reg .l) (.d8 d8)
  | .inc_atHL => .inc .atHL
  | .dec_atHL => .dec .atHL
  | .ld_atHL_d8 d8 => .ld .atHL (.d8 d8)
  | .inc_A => .inc (.reg .a)
  | .dec_A => .dec (.reg .a)
  | .ld_A_d8 d8 => .ld (.reg .a) (.d8 d8)
  | .ld_B_B => .ld (.reg .b) (.reg .b)
  | .ld_B_C => .ld (.reg .b) (.reg .c)
  | .ld_B_D => .ld (.reg .b) (.reg .d)
  | .ld_B_E => .ld (.reg .b) (.reg .e)
  | .ld_B_H => .ld (.reg .b) (.reg .h)
  | .ld_B_L => .ld (.reg .b) (.reg .l)
  | .ld_B_atHL => .ld (.reg .b) .atHL
  | .ld_B_A => .ld (.reg .b) (.reg .a)
  | .ld_C_B => .ld (.reg .c) (.reg .b)
  | .ld_C_C => .ld (.reg .c) (.reg .c)
  | .ld_C_D => .ld (.reg .c) (.reg .d)
  | .ld_C_E => .ld (.reg .c) (.reg .e)
  | .ld_C_H => .ld (.reg .c) (.reg .h)
  | .ld_C_L => .ld (.reg .c) (.reg .l)
  | .ld_C_atHL => .ld (.reg .c) .atHL
  | .ld_C_A => .ld (.reg .c) (.reg .a)
  | .ld_D_B => .ld (.reg .d) (.reg .b)
  | .ld_D_C => .ld (.reg .d) (.reg .c)
  | .ld_D_D => .ld (.reg .d) (.reg .d)
  | .ld_D_E => .ld (.reg .d) (.reg .e)
  | .ld_D_H => .ld (.reg .d) (.reg .h)
  | .ld_D_L => .ld (.reg .d) (.reg .l)
  | .ld_D_atHL => .ld (.reg .d) .atHL
  | .ld_D_A => .ld (.reg .d) (.reg .a)
  | .ld_E_B => .ld (.reg .e) (.reg .b)
  | .ld_E_C => .ld (.reg .e) (.reg .c)
  | .ld_E_D => .ld (.reg .e) (.reg .d)
  | .ld_E_E => .ld (.reg .e) (.reg .e)
  | .ld_E_H => .ld (.reg .e) (.reg .h)
  | .ld_E_L => .ld (.reg .e) (.reg .l)
  | .ld_E_atHL => .ld (.reg .e) .atHL
  | .ld_E_A => .ld (.reg .e) (.reg .a)
  | .ld_H_B => .ld (.reg .h) (.reg .b)
  | .ld_H_C => .ld (.reg .h) (.reg .c)
  | .ld_H_D => .ld (.reg .h) (.reg .d)
  | .ld_H_E => .ld (.reg .h) (.reg .e)
  | .ld_H_H => .ld (.reg .h) (.reg .h)
  | .ld_H_L => .ld (.reg .h) (.reg .l)
  | .ld_H_atHL => .ld (.reg .h) .atHL
  | .ld_H_A => .ld (.reg .h) (.reg .a)
  | .ld_L_B => .ld (.reg .l) (.reg .b)
  | .ld_L_C => .ld (.reg .l) (.reg .c)
  | .ld_L_D => .ld (.reg .l) (.reg .d)
  | .ld_L_E => .ld (.reg .l) (.reg .e)
  | .ld_L_H => .ld (.reg .l) (.reg .h)
  | .ld_L_L => .ld (.reg .l) (.reg .l)
  | .ld_L_atHL => .ld (.reg .l) .atHL
  | .ld_L_A => .ld (.reg .l) (.reg .a)
  | .ld_atHL_B => .ld .atHL (.reg .b)
  | .ld_atHL_C => .ld .atHL (.reg .c)
  | .ld_atHL_D => .ld .atHL (.reg .d)
  | .ld_atHL_E => .ld .atHL (.reg .e)
  | .ld_atHL_H => .ld .atHL (.reg .h)
  | .ld_atHL_L => .ld .atHL (.reg .l)
  | .ld_atHL_A => .ld .atHL (.reg .a)
  | .ld_A_B => .ld (.reg .a) (.reg .b)
  | .ld_A_C => .ld (.reg .a) (.reg .c)
  | .ld_A_D => .ld (.reg .a) (.reg .d)
  | .ld_A_E => .ld (.reg .a) (.reg .e)
  | .ld_A_H => .ld (.reg .a) (.reg .h)
  | .ld_A_L => .ld (.reg .a) (.reg .l)
  | .ld_A_atHL => .ld (.reg .a) .atHL
  | .ld_A_A => .ld (.reg .a) (.reg .a)
  | .add_A_B => .alu .add (.reg .b)
  | .add_A_C => .alu .add (.reg .c)
  | .add_A_D => .alu .add (.reg .d)
  | .add_A_E => .alu .add (.reg .e)
  | .add_A_H => .alu .add (.reg .h)
  | .add_A_L => .alu .add (.reg .l)
  | .add_A_atHL => .alu .add .atHL
  | .add_A_A => .alu .add (.reg .a)
  | .adc_A_B => .alu .adc (.reg .b)
  | .adc_A_C => .alu .adc (.reg .c)
  | .adc_A_D => .alu .adc (.reg .d)
  | .adc_A_E => .alu .adc (.reg .e)
  | .adc_A_H => .alu .adc (.reg .h)
  | .adc_A_L => .alu .adc (.reg .l)
  | .adc_A_atHL => .alu .adc .atHL
  | .adc_A_A => .alu .adc (.reg .a)
  | .sub_A_B => .alu .sub (.reg .b)
  | .sub_A_C => .alu .sub (.reg .c)
  | .sub_A_D => .alu .sub (.reg .d)
  | .sub_A_E => .alu .sub (.reg .e)
  | .sub_A_H => .alu .sub (.reg .h)
  | .sub_A_L => .alu .sub (.reg .l)
  | .sub_A_atHL => .alu .sub .atHL
  | .sub_A_A => .alu .sub (.reg .a)
  | .sbc_A_B => .alu .sbc (.reg .b)
  | .sbc_A_C => .alu .sbc (.reg .c)
  | .sbc_A_D => .alu .sbc (.reg .d)
  | .sbc_A_E => .alu .sbc (.reg .e)
  | .sbc_A_H => .alu .sbc (.reg .h)
  | .sbc_A_L => .alu .sbc (.reg .l)
  | .sbc_A_atHL => .alu .sbc .atHL
  | .sbc_A_A => .alu .sbc (.reg .a)
  | .and_A_B => .alu .and (.reg .b)
  | .and_A_C => .alu .and (.reg .c)
  | .and_A_D => .alu .and (.reg .d)
  | .and_A_E => .alu .and (.reg .e)
  | .and_A_H => .alu .and (.reg .h)
  | .and_A_L => .alu .and (.reg .l)
  | .and_A_atHL => .alu .and .atHL
  | .and_A_A => .alu .and (.reg .a)
  | .xor_A_B => .alu .xor (.reg .b)
  | .xor_A_C => .alu .xor (.reg .c)
  | .xor_A_D => .alu .xor (.reg .d)
  | .xor_A_E => .alu .xor (.reg .e)
  | .xor_A_H => .alu .xor (.reg .h)
  | .xor_A_L => .alu .xor (.reg .l)
  | .xor_A_atHL => .alu .xor .atHL
  | .xor_A_A => .alu .xor (.reg .a)
  | .or_A_B => .alu .or (.reg .b)
  | .or_A_C => .alu .or (.reg .c)
  | .or_A_D => .alu .or (.reg .d)
  | .or_A_E => .alu .or (.reg .e)
  | .or_A_H => .alu .or (.reg .h)
  | .or_A_L => .alu .or (.reg .l)
  | .or_A_atHL => .alu .or .atHL
  | .or_A_A => .alu .or (.reg .a)
  | .cp_A_B => .alu .cp (.reg .b)
  | .cp_A_C => .alu .cp (.reg .c)
  | .cp_A_D => .alu .cp (.reg .d)
  | .cp_A_E => .alu .cp (.reg .e)
  | .cp_A_H => .alu .cp (.reg .h)
  | .cp_A_L => .alu .cp (.reg .l)
  | .cp_A_atHL => .alu .cp .atHL
  | .cp_A_A => .alu .cp (.reg .a)
  | .add_A_d8 d8 => .alu .add (.d8 d8)
  | .adc_A_d8 d8 => .alu .adc (.d8 d8)
  | .sub_A_d8 d8 => .alu .sub (.d8 d8)
  | .sbc_A_d8 d8 => .alu .sbc (.d8 d8)
  | .and_A_d8 d8 => .alu .and (.d8 d8)
  | .xor_A_d8 d8 => .alu .xor (.d8 d8)
  | .or_A_d8 d8 => .alu .or (.d8 d8)
  | .cp_A_d8 d8 => .alu .cp (.d8 d8)

end Sys2Proof
end

