-- ==== Sys2Proof/WellFormed.lean ====
section
/-! DEFINITION. What may be written down and what may not: assembly terms (`spec/30_encoding.md` R72, R68)
and reset parameters (`spec/70_reset_and_hazards.md` R173).  An `Instr` has no ill-formed value: its
register operands are the seven nameable halves (R63), and its immediate is any byte (R70). -/
namespace Sys2Proof

/-- R72: the destination of `LD` is a register or `(HL)`, never a literal; `LD (HL),(HL)` is no
instruction (R68); `INC` and `DEC` take a register or `(HL)`; an ALU mnemonic takes any operand. -/
def Asm.wf : Asm → Bool
  | .ld (.d8 _) _ => false
  | .ld .atHL .atHL => false
  | .ld .atHL (.reg _) => true
  | .ld .atHL (.d8 _) => true
  | .ld (.reg _) _ => true
  | .inc (.d8 _) => false
  | .inc .atHL => true
  | .inc (.reg _) => true
  | .dec (.d8 _) => false
  | .dec .atHL => true
  | .dec (.reg _) => true
  | .alu _ _ => true

/-- An instruction is well formed when its assembly reading is; R70 says that this is every one. -/
def Instr.wf (i : Instr) : Bool := i.asm.wf

/-- R173: the boot image has exactly 256 bytes and the cartridge image at most 32768. -/
def ResetParams.wf (p : ResetParams) : Bool :=
  decide (p.bootImage.length = bootBytes) && decide (p.cartImage.length ≤ romBytes)

end Sys2Proof
end

