-- ==== Sys2Proof/Decode.lean ====
section
/-! DEFINITION. The decoder, from the field layout of `spec/30_encoding.md` R61 to R64, and after it the
encoder, from the opcode bytes of R67's map and the instruction rules: the two are written from different
tables of the spec, so that their agreement says something.  Then the assembler spelling of R72. -/
namespace Sys2Proof

/-- Field `x`, bits 7:6 (R61). -/
def fieldX (op : Byte) : BitVec 2 := op.extractLsb' 6 2

/-- Field `y`, bits 5:3 (R61). -/
def fieldY (op : Byte) : BitVec 3 := op.extractLsb' 3 3

/-- Field `z`, bits 2:0 (R61). -/
def fieldZ (op : Byte) : BitVec 3 := op.extractLsb' 0 3

/-- The operand of a 3-bit operand code (R63). -/
def operandOfCode (code : BitVec 3) : Operand :=
  if code = 0b000#3 then .reg .b
  else if code = 0b001#3 then .reg .c
  else if code = 0b010#3 then .reg .d
  else if code = 0b011#3 then .reg .e
  else if code = 0b100#3 then .reg .h
  else if code = 0b101#3 then .reg .l
  else if code = 0b110#3 then .atHL
  else .reg .a

/-- The operation of a 3-bit ALU operation code (R64). -/
def aluOpOfCode (code : BitVec 3) : AluOp :=
  if code = 0b000#3 then .add
  else if code = 0b001#3 then .adc
  else if code = 0b010#3 then .sub
  else if code = 0b011#3 then .sbc
  else if code = 0b100#3 then .and
  else if code = 0b101#3 then .xor
  else if code = 0b110#3 then .or
  else .cp

/-- Selection of the instruction from the fields (R62); `none` is "undefined".  `d8` is the byte after the
opcode and stands in the answer only for the immediate forms. -/
def selectAsm (op d8 : Byte) : Option Asm :=
  if fieldX op = 0#2 then
    if fieldZ op = 4#3 then some (.inc (operandOfCode (fieldY op)))
    else if fieldZ op = 5#3 then some (.dec (operandOfCode (fieldY op)))
    else if fieldZ op = 6#3 then some (.ld (operandOfCode (fieldY op)) (.d8 d8))
    else none
  else if fieldX op = 1#2 then
    if fieldY op = 6#3 ∧ fieldZ op = 6#3 then none
    else some (.ld (operandOfCode (fieldY op)) (operandOfCode (fieldZ op)))
  else if fieldX op = 2#2 then
    some (.alu (aluOpOfCode (fieldY op)) (operandOfCode (fieldZ op)))
  else
    if fieldZ op = 6#3 then some (.alu (aluOpOfCode (fieldY op)) (.d8 d8)) else none

/-- The instruction an assembly term names; `none` for the terms that are no instruction (R72, R68). -/
def Instr.ofAsm : Asm → Option Instr
  | .ld (.d8 _) _ => none
  | .ld .atHL .atHL => none
  | .inc (.d8 _) => none
  | .dec (.d8 _) => none
  | .inc (.reg .b) => some .inc_B
  | .dec (.reg .b) => some .dec_B
  | .ld (.reg .b) (.d8 d8) => some (.ld_B_d8 d8)
  | .inc (.reg .c) => some .inc_C
  | .dec (.reg .c) => some .dec_C
  | .ld (.reg .c) (.d8 d8) => some (.ld_C_d8 d8)
  | .inc (.reg .d) => some .inc_D
  | .dec (.reg .d) => some .dec_D
  | .ld (.reg .d) (.d8 d8) => some (.ld_D_d8 d8)
  | .inc (.reg .e) => some .inc_E
  | .dec (.reg .e) => some .dec_E
  | .ld (.reg .e) (.d8 d8) => some (.ld_E_d8 d8)
  | .inc (.reg .h) => some .inc_H
  | .dec (.reg .h) => some .dec_H
  | .ld (.reg .h) (.d8 d8) => some (.ld_H_d8 d8)
  | .inc (.reg .l) => some .inc_L
  | .dec (.reg .l) => some .dec_L
  | .ld (.reg .l) (.d8 d8) => some (.ld_L_d8 d8)
  | .inc .atHL => some .inc_atHL
  | .dec .atHL => some .dec_atHL
  | .ld .atHL (.d8 d8) => some (.ld_atHL_d8 d8)
  | .inc (.reg .a) => some .inc_A
  | .dec (.reg .a) => some .dec_A
  | .ld (.reg .a) (.d8 d8) => some (.ld_A_d8 d8)
  | .ld (.reg .b) (.reg .b) => some .ld_B_B
  | .ld (.reg .b) (.reg .c) => some .ld_B_C
  | .ld (.reg .b) (.reg .d) => some .ld_B_D
  | .ld (.reg .b) (.reg .e) => some .ld_B_E
  | .ld (.reg .b) (.reg .h) => some .ld_B_H
  | .ld (.reg .b) (.reg .l) => some .ld_B_L
  | .ld (.reg .b) .atHL => some .ld_B_atHL
  | .ld (.reg .b) (.reg .a) => some .ld_B_A
  | .ld (.reg .c) (.reg .b) => some .ld_C_B
  | .ld (.reg .c) (.reg .c) => some .ld_C_C
  | .ld (.reg .c) (.reg .d) => some .ld_C_D
  | .ld (.reg .c) (.reg .e) => some .ld_C_E
  | .ld (.reg .c) (.reg .h) => some .ld_C_H
  | .ld (.reg .c) (.reg .l) => some .ld_C_L
  | .ld (.reg .c) .atHL => some .ld_C_atHL
  | .ld (.reg .c) (.reg .a) => some .ld_C_A
  | .ld (.reg .d) (.reg .b) => some .ld_D_B
  | .ld (.reg .d) (.reg .c) => some .ld_D_C
  | .ld (.reg .d) (.reg .d) => some .ld_D_D
  | .ld (.reg .d) (.reg .e) => some .ld_D_E
  | .ld (.reg .d) (.reg .h) => some .ld_D_H
  | .ld (.reg .d) (.reg .l) => some .ld_D_L
  | .ld (.reg .d) .atHL => some .ld_D_atHL
  | .ld (.reg .d) (.reg .a) => some .ld_D_A
  | .ld (.reg .e) (.reg .b) => some .ld_E_B
  | .ld (.reg .e) (.reg .c) => some .ld_E_C
  | .ld (.reg .e) (.reg .d) => some .ld_E_D
  | .ld (.reg .e) (.reg .e) => some .ld_E_E
  | .ld (.reg .e) (.reg .h) => some .ld_E_H
  | .ld (.reg .e) (.reg .l) => some .ld_E_L
  | .ld (.reg .e) .atHL => some .ld_E_atHL
  | .ld (.reg .e) (.reg .a) => some .ld_E_A
  | .ld (.reg .h) (.reg .b) => some .ld_H_B
  | .ld (.reg .h) (.reg .c) => some .ld_H_C
  | .ld (.reg .h) (.reg .d) => some .ld_H_D
  | .ld (.reg .h) (.reg .e) => some .ld_H_E
  | .ld (.reg .h) (.reg .h) => some .ld_H_H
  | .ld (.reg .h) (.reg .l) => some .ld_H_L
  | .ld (.reg .h) .atHL => some .ld_H_atHL
  | .ld (.reg .h) (.reg .a) => some .ld_H_A
  | .ld (.reg .l) (.reg .b) => some .ld_L_B
  | .ld (.reg .l) (.reg .c) => some .ld_L_C
  | .ld (.reg .l) (.reg .d) => some .ld_L_D
  | .ld (.reg .l) (.reg .e) => some .ld_L_E
  | .ld (.reg .l) (.reg .h) => some .ld_L_H
  | .ld (.reg .l) (.reg .l) => some .ld_L_L
  | .ld (.reg .l) .atHL => some .ld_L_atHL
  | .ld (.reg .l) (.reg .a) => some .ld_L_A
  | .ld .atHL (.reg .b) => some .ld_atHL_B
  | .ld .atHL (.reg .c) => some .ld_atHL_C
  | .ld .atHL (.reg .d) => some .ld_atHL_D
  | .ld .atHL (.reg .e) => some .ld_atHL_E
  | .ld .atHL (.reg .h) => some .ld_atHL_H
  | .ld .atHL (.reg .l) => some .ld_atHL_L
  | .ld .atHL (.reg .a) => some .ld_atHL_A
  | .ld (.reg .a) (.reg .b) => some .ld_A_B
  | .ld (.reg .a) (.reg .c) => some .ld_A_C
  | .ld (.reg .a) (.reg .d) => some .ld_A_D
  | .ld (.reg .a) (.reg .e) => some .ld_A_E
  | .ld (.reg .a) (.reg .h) => some .ld_A_H
  | .ld (.reg .a) (.reg .l) => some .ld_A_L
  | .ld (.reg .a) .atHL => some .ld_A_atHL
  | .ld (.reg .a) (.reg .a) => some .ld_A_A
  | .alu .add (.reg .b) => some .add_A_B
  | .alu .add (.reg .c) => some .add_A_C
  | .alu .add (.reg .d) => some .add_A_D
  | .alu .add (.reg .e) => some .add_A_E
  | .alu .add (.reg .h) => some .add_A_H
  | .alu .add (.reg .l) => some .add_A_L
  | .alu .add .atHL => some .add_A_atHL
  | .alu .add (.reg .a) => some .add_A_A
  | .alu .adc (.reg .b) => some .adc_A_B
  | .alu .adc (.reg .c) => some .adc_A_C
  | .alu .adc (.reg .d) => some .adc_A_D
  | .alu .adc (.reg .e) => some .adc_A_E
  | .alu .adc (.reg .h) => some .adc_A_H
  | .alu .adc (.reg .l) => some .adc_A_L
  | .alu .adc .atHL => some .adc_A_atHL
  | .alu .adc (.reg .a) => some .adc_A_A
  | .alu .sub (.reg .b) => some .sub_A_B
  | .alu .sub (.reg .c) => some .sub_A_C
  | .alu .sub (.reg .d) => some .sub_A_D
  | .alu .sub (.reg .e) => some .sub_A_E
  | .alu .sub (.reg .h) => some .sub_A_H
  | .alu .sub (.reg .l) => some .sub_A_L
  | .alu .sub .atHL => some .sub_A_atHL
  | .alu .sub (.reg .a) => some .sub_A_A
  | .alu .sbc (.reg .b) => some .sbc_A_B
  | .alu .sbc (.reg .c) => some .sbc_A_C
  | .alu .sbc (.reg .d) => some .sbc_A_D
  | .alu .sbc (.reg .e) => some .sbc_A_E
  | .alu .sbc (.reg .h) => some .sbc_A_H
  | .alu .sbc (.reg .l) => some .sbc_A_L
  | .alu .sbc .atHL => some .sbc_A_atHL
  | .alu .sbc (.reg .a) => some .sbc_A_A
  | .alu .and (.reg .b) => some .and_A_B
  | .alu .and (.reg .c) => some .and_A_C
  | .alu .and (.reg .d) => some .and_A_D
  | .alu .and (.reg .e) => some .and_A_E
  | .alu .and (.reg .h) => some .and_A_H
  | .alu .and (.reg .l) => some .and_A_L
  | .alu .and .atHL => some .and_A_atHL
  | .alu .and (.reg .a) => some .and_A_A
  | .alu .xor (.reg .b) => some .xor_A_B
  | .alu .xor (.reg .c) => some .xor_A_C
  | .alu .xor (.reg .d) => some .xor_A_D
  | .alu .xor (.reg .e) => some .xor_A_E
  | .alu .xor (.reg .h) => some .xor_A_H
  | .alu .xor (.reg .l) => some .xor_A_L
  | .alu .xor .atHL => some .xor_A_atHL
  | .alu .xor (.reg .a) => some .xor_A_A
  | .alu .or (.reg .b) => some .or_A_B
  | .alu .or (.reg .c) => some .or_A_C
  | .alu .or (.reg .d) => some .or_A_D
  | .alu .or (.reg .e) => some .or_A_E
  | .alu .or (.reg .h) => some .or_A_H
  | .alu .or (.reg .l) => some .or_A_L
  | .alu .or .atHL => some .or_A_atHL
  | .alu .or (.reg .a) => some .or_A_A
  | .alu .cp (.reg .b) => some .cp_A_B
  | .alu .cp (.reg .c) => some .cp_A_C
  | .alu .cp (.reg .d) => some .cp_A_D
  | .alu .cp (.reg .e) => some .cp_A_E
  | .alu .cp (.reg .h) => some .cp_A_H
  | .alu .cp (.reg .l) => some .cp_A_L
  | .alu .cp .atHL => some .cp_A_atHL
  | .alu .cp (.reg .a) => some .cp_A_A
  | .alu .add (.d8 d8) => some (.add_A_d8 d8)
  | .alu .adc (.d8 d8) => some (.adc_A_d8 d8)
  | .alu .sub (.d8 d8) => some (.sub_A_d8 d8)
  | .alu .sbc (.d8 d8) => some (.sbc_A_d8 d8)
  | .alu .and (.d8 d8) => some (.and_A_d8 d8)
  | .alu .xor (.d8 d8) => some (.xor_A_d8 d8)
  | .alu .or (.d8 d8) => some (.or_A_d8 d8)
  | .alu .cp (.d8 d8) => some (.cp_A_d8 d8)

/-- R69: whether the opcode byte alone makes the instruction two bytes long. -/
def hasImmediate (op : Byte) : Bool :=
  decide ((fieldX op = 0#2 ∨ fieldX op = 3#2) ∧ fieldZ op = 6#3)

/-- Why the decoder refuses bytes. -/
inductive DecodeError where
  /-- There is no byte to decode. -/
  | noOpcode
  /-- A 2-byte opcode with no byte after it.  A fetch never answers this: it supplies two bytes. -/
  | missingImmediate (op : Byte)
  /-- One of the 97 values with no handler (R68). -/
  | undefinedOpcode (op : Byte)
  deriving DecidableEq, Repr

/-- The instruction of an opcode byte and, for the immediate forms, the byte after it. -/
def decodeOpcode (op d8 : Byte) : Option Instr := (selectAsm op d8).bind Instr.ofAsm

/-- The decoder (R82): a function of the bytes alone, total, one outcome for each of the 256 opcode values.
It answers the instruction and the bytes after it. -/
def decode : List Byte → Except DecodeError (Instr × List Byte)
  | [] => .error .noOpcode
  | op :: rest =>
    if hasImmediate op then
      match rest with
      | [] => .error (.missingImmediate op)
      | d8 :: rest' =>
        match decodeOpcode op d8 with
        | some i => .ok (i, rest')
        | none => .error (.undefinedOpcode op)
    else
      match decodeOpcode op 0x00#8 with
      | some i => .ok (i, rest)
      | none => .error (.undefinedOpcode op)

/-- The bytes of an instruction: its opcode byte as R67's map gives it, then `d8` for an immediate form. -/
def encode : Instr → List Byte
  | .inc_B => [0x04#8]
  | .dec_B => [0x05#8]
  | .ld_B_d8 d8 => [0x06#8, d8]
  | .inc_C => [0x0C#8]
  | .dec_C => [0x0D#8]
  | .ld_C_d8 d8 => [0x0E#8, d8]
  | .inc_D => [0x14#8]
  | .dec_D => [0x15#8]
  | .ld_D_d8 d8 => [0x16#8, d8]
  | .inc_E => [0x1C#8]
  | .dec_E => [0x1D#8]
  | .ld_E_d8 d8 => [0x1E#8, d8]
  | .inc_H => [0x24#8]
  | .dec_H => [0x25#8]
  | .ld_H_d8 d8 => [0x26#8, d8]
  | .inc_L => [0x2C#8]
  | .dec_L => [0x2D#8]
  | .ld_L_d8 d8 => [0x2E#8, d8]
  | .inc_atHL => [0x34#8]
  | .dec_atHL => [0x35#8]
  | .ld_atHL_d8 d8 => [0x36#8, d8]
  | .inc_A => [0x3C#8]
  | .dec_A => [0x3D#8]
  | .ld_A_d8 d8 => [0x3E#8, d8]
  | .ld_B_B => [0x40#8]
  | .ld_B_C => [0x41#8]
  | .ld_B_D => [0x42#8]
  | .ld_B_E => [0x43#8]
  | .ld_B_H => [0x44#8]
  | .ld_B_L => [0x45#8]
  | .ld_B_atHL => [0x46#8]
  | .ld_B_A => [0x47#8]
  | .ld_C_B => [0x48#8]
  | .ld_C_C => [0x49#8]
  | .ld_C_D => [0x4A#8]
  | .ld_C_E => [0x4B#8]
  | .ld_C_H => [0x4C#8]
  | .ld_C_L => [0x4D#8]
  | .ld_C_atHL => [0x4E#8]
  | .ld_C_A => [0x4F#8]
  | .ld_D_B => [0x50#8]
  | .ld_D_C => [0x51#8]
  | .ld_D_D => [0x52#8]
  | .ld_D_E => [0x53#8]
  | .ld_D_H => [0x54#8]
  | .ld_D_L => [0x55#8]
  | .ld_D_atHL => [0x56#8]
  | .ld_D_A => [0x57#8]
  | .ld_E_B => [0x58#8]
  | .ld_E_C => [0x59#8]
  | .ld_E_D => [0x5A#8]
  | .ld_E_E => [0x5B#8]
  | .ld_E_H => [0x5C#8]
  | .ld_E_L => [0x5D#8]
  | .ld_E_atHL => [0x5E#8]
  | .ld_E_A => [0x5F#8]
  | .ld_H_B => [0x60#8]
  | .ld_H_C => [0x61#8]
  | .ld_H_D => [0x62#8]
  | .ld_H_E => [0x63#8]
  | .ld_H_H => [0x64#8]
  | .ld_H_L => [0x65#8]
  | .ld_H_atHL => [0x66#8]
  | .ld_H_A => [0x67#8]
  | .ld_L_B => [0x68#8]
  | .ld_L_C => [0x69#8]
  | .ld_L_D => [0x6A#8]
  | .ld_L_E => [0x6B#8]
  | .ld_L_H => [0x6C#8]
  | .ld_L_L => [0x6D#8]
  | .ld_L_atHL => [0x6E#8]
  | .ld_L_A => [0x6F#8]
  | .ld_atHL_B => [0x70#8]
  | .ld_atHL_C => [0x71#8]
  | .ld_atHL_D => [0x72#8]
  | .ld_atHL_E => [0x73#8]
  | .ld_atHL_H => [0x74#8]
  | .ld_atHL_L => [0x75#8]
  | .ld_atHL_A => [0x77#8]
  | .ld_A_B => [0x78#8]
  | .ld_A_C => [0x79#8]
  | .ld_A_D => [0x7A#8]
  | .ld_A_E => [0x7B#8]
  | .ld_A_H => [0x7C#8]
  | .ld_A_L => [0x7D#8]
  | .ld_A_atHL => [0x7E#8]
  | .ld_A_A => [0x7F#8]
  | .add_A_B => [0x80#8]
  | .add_A_C => [0x81#8]
  | .add_A_D => [0x82#8]
  | .add_A_E => [0x83#8]
  | .add_A_H => [0x84#8]
  | .add_A_L => [0x85#8]
  | .add_A_atHL => [0x86#8]
  | .add_A_A => [0x87#8]
  | .adc_A_B => [0x88#8]
  | .adc_A_C => [0x89#8]
  | .adc_A_D => [0x8A#8]
  | .adc_A_E => [0x8B#8]
  | .adc_A_H => [0x8C#8]
  | .adc_A_L => [0x8D#8]
  | .adc_A_atHL => [0x8E#8]
  | .adc_A_A => [0x8F#8]
  | .sub_A_B => [0x90#8]
  | .sub_A_C => [0x91#8]
  | .sub_A_D => [0x92#8]
  | .sub_A_E => [0x93#8]
  | .sub_A_H => [0x94#8]
  | .sub_A_L => [0x95#8]
  | .sub_A_atHL => [0x96#8]
  | .sub_A_A => [0x97#8]
  | .sbc_A_B => [0x98#8]
  | .sbc_A_C => [0x99#8]
  | .sbc_A_D => [0x9A#8]
  | .sbc_A_E => [0x9B#8]
  | .sbc_A_H => [0x9C#8]
  | .sbc_A_L => [0x9D#8]
  | .sbc_A_atHL => [0x9E#8]
  | .sbc_A_A => [0x9F#8]
  | .and_A_B => [0xA0#8]
  | .and_A_C => [0xA1#8]
  | .and_A_D => [0xA2#8]
  | .and_A_E => [0xA3#8]
  | .and_A_H => [0xA4#8]
  | .and_A_L => [0xA5#8]
  | .and_A_atHL => [0xA6#8]
  | .and_A_A => [0xA7#8]
  | .xor_A_B => [0xA8#8]
  | .xor_A_C => [0xA9#8]
  | .xor_A_D => [0xAA#8]
  | .xor_A_E => [0xAB#8]
  | .xor_A_H => [0xAC#8]
  | .xor_A_L => [0xAD#8]
  | .xor_A_atHL => [0xAE#8]
  | .xor_A_A => [0xAF#8]
  | .or_A_B => [0xB0#8]
  | .or_A_C => [0xB1#8]
  | .or_A_D => [0xB2#8]
  | .or_A_E => [0xB3#8]
  | .or_A_H => [0xB4#8]
  | .or_A_L => [0xB5#8]
  | .or_A_atHL => [0xB6#8]
  | .or_A_A => [0xB7#8]
  | .cp_A_B => [0xB8#8]
  | .cp_A_C => [0xB9#8]
  | .cp_A_D => [0xBA#8]
  | .cp_A_E => [0xBB#8]
  | .cp_A_H => [0xBC#8]
  | .cp_A_L => [0xBD#8]
  | .cp_A_atHL => [0xBE#8]
  | .cp_A_A => [0xBF#8]
  | .add_A_d8 d8 => [0xC6#8, d8]
  | .adc_A_d8 d8 => [0xCE#8, d8]
  | .sub_A_d8 d8 => [0xD6#8, d8]
  | .sbc_A_d8 d8 => [0xDE#8, d8]
  | .and_A_d8 d8 => [0xE6#8, d8]
  | .xor_A_d8 d8 => [0xEE#8, d8]
  | .or_A_d8 d8 => [0xF6#8, d8]
  | .cp_A_d8 d8 => [0xFE#8, d8]

/-- The instruction of a word numbered as `spec/opcode_table.json` numbers it: bits 7..0 are the opcode
byte, bits 15..8 the byte after it; bits above `nbits` are 0. -/
def decodeTableWord (nbits w : Nat) : Option Instr :=
  let word := w % 2 ^ nbits
  match decode [BitVec.ofNat 8 word, BitVec.ofNat 8 (word / 256)] with
  | .ok (i, _) => some i
  | .error _ => none

/-! ### Assembler spelling (R72) -/

/-- One hexadecimal digit. -/
def hexDigit (n : Nat) : String :=
  (["0", "1", "2", "3", "4", "5", "6", "7", "8", "9", "A", "B", "C", "D", "E", "F"].getD n "")

/-- `d8-literal := 0x00..0xFF`. -/
def hexLiteral (v : Byte) : String := "0x" ++ hexDigit (v.toNat / 16) ++ hexDigit (v.toNat % 16)

/-- The register's letter (R12). -/
def Reg8.text : Reg8 → String
  | .b => "B"
  | .c => "C"
  | .d => "D"
  | .e => "E"
  | .h => "H"
  | .l => "L"
  | .a => "A"

/-- The operand as R72 spells it. -/
def Operand.text : Operand → String
  | .reg r => r.text
  | .atHL => "(HL)"
  | .d8 v => hexLiteral v

/-- The ALU mnemonics (R64). -/
def AluOp.text : AluOp → String
  | .add => "ADD"
  | .adc => "ADC"
  | .sub => "SUB"
  | .sbc => "SBC"
  | .and => "AND"
  | .xor => "XOR"
  | .or => "OR"
  | .cp => "CP"

/-- The line of assembler of a term: the accumulator is always written, the destination comes first. -/
def Asm.text : Asm → String
  | .ld dst src => "LD " ++ dst.text ++ "," ++ src.text
  | .inc o => "INC " ++ o.text
  | .dec o => "DEC " ++ o.text
  | .alu op src => op.text ++ " A," ++ src.text

end Sys2Proof
end

