-- ==== Sys2Proof/Machine/State.lean ====
section
/-! DEFINITION. The machine's state (`spec/10_state.md`, the tuple at its head, R25: there is no other
state), the reasons a step could stop, and the state after reset. -/
namespace Sys2Proof.Machine

/-- The payload of the fault latch: the offending opcode byte and the address it was fetched from
(R22, R150). -/
structure UndefinedOpcode where
  opcode : Byte
  pc : Word
  deriving DecidableEq, Repr

/-- R24: the one array of 65536 byte cells, as its cells that differ from `unwrittenByte`
(`Machine/Ops.lean`), addresses strictly rising. -/
abbrev Memory := List Host.Cell

/-- The complete state, and beside it the parameters of R3 that the core runs with.  The eight halves are
stored; the pairs `BC DE HL AF` are the same bits and are computed from them (R11, `State.pair`). -/
structure State where
  /-- accumulator, high half of `AF` (R12, R13) -/
  a : Byte
  /-- flags byte, low half of `AF` (R12, R16, R17) -/
  f : Byte
  /-- high half of `BC` (R12) -/
  b : Byte
  /-- low half of `BC` (R12) -/
  c : Byte
  /-- high half of `DE` (R12) -/
  d : Byte
  /-- low half of `DE` (R12) -/
  e : Byte
  /-- high half of `HL` (R12) -/
  h : Byte
  /-- low half of `HL` (R12) -/
  l : Byte
  /-- program counter (R14) -/
  pc : Word
  /-- stack pointer, used by no instruction (R20) -/
  sp : Word
  /-- `cycle_count` (R21) -/
  cycleCount : Word
  /-- the `opcode` latch (R23) -/
  opcode : Byte
  /-- memory (R24) -/
  mem : Memory
  /-- the `fault` latch (R22) -/
  fault : Option UndefinedOpcode
  /-- the parameters this core was built with (R3): the model's own field, no state of the spec's (R25).
  Reset sets it and nothing writes it (assumption 21). -/
  params : CoreParams
  deriving DecidableEq, Repr

/-- The four register pairs (R10). -/
inductive Pair where
  | bc | de | hl | af
  deriving DecidableEq, Repr

/-- Reasons a step stops with no next state.  There are none: the one exception of the hardware has an
entry the spec describes (R152), so it is taken as a next state, and everything else is total (R40, R80).
Nothing raises a `Fault`; leaving the type empty is safe (no step is cut short). -/
inductive Fault where
  deriving DecidableEq, Repr

/-- Reasons an instruction has no meaning. -/
inductive Refusal where
  /-- Only `exec`'s arms could answer it, for an instruction not reached yet; no arm does.  Safe: the
  model would stop where the hardware goes on. -/
  | notModelled (mnemonic : String)
  deriving DecidableEq, Repr

/-- What an instruction or a step answers. -/
abbrev Answer := Host.Outcome State Fault Refusal

/-- The machine right after reset with every parameter at its default (R30 to R33, R170, R172).  The
source gives no reset value: the zeros are the spec's defaults (D9, D10), DESIGN CHOICE, assumptions 1
and 2.  `resetWith` (`Machine/Reset.lean`) is reset with the parameters free. -/
def State.reset : State where
  a := 0x00#8
  f := 0x00#8
  b := 0x00#8
  c := 0x00#8
  d := 0x00#8
  e := 0x00#8
  h := 0x00#8
  l := 0x00#8
  pc := 0x0000#16
  sp := 0x0000#16
  cycleCount := 0x0000#16
  opcode := 0x00#8
  mem := []
  fault := none
  params := CoreParams.standard

end Sys2Proof.Machine
end

