-- ==== Sys2Proof/Machine/Ops.lean ====
section
/-! DEFINITION. The named operations over memory and registers, the advance every handler ends with, and
taking the one exception. -/
namespace Sys2Proof.Machine

/-! ### Bytes of a word (R11, R46) -/

/-- `w[15:8]`. -/
def highByte (w : Word) : Byte := w.extractLsb' 8 8

/-- `w[7:0]`. -/
def lowByte (w : Word) : Byte := w.extractLsb' 0 8

/-- `hi ++ lo`, `hi` in the more significant position. -/
def joinBytes (hi lo : Byte) : Word := hi ++ lo

/-! ### Memory (R24, R40, R44, R45) -/

/-- What a cell that no entry lists holds: `INIT_FILL` at its default (R172, D10; DESIGN CHOICE,
assumption 3). -/
def unwrittenByte : Byte := 0x00#8

/-- The byte at a cell (R44).  Reading changes nothing and cannot fail. -/
def Memory.read : Memory → Nat → Byte
  | [], _ => unwrittenByte
  | (k, v) :: rest, a => if k = a then v else Memory.read rest a

/-- The unconditional store (R45, R43), keeping the canonical form: addresses stay rising, and a cell
that gets `unwrittenByte` is no longer listed. -/
def Memory.write : Memory → Nat → Byte → Memory
  | [], a, v => if v = unwrittenByte then [] else [(a, v)]
  | (k, w) :: rest, a, v =>
    if a < k then
      if v = unwrittenByte then (k, w) :: rest else (a, v) :: (k, w) :: rest
    else if a = k then
      if v = unwrittenByte then rest else (a, v) :: rest
    else (k, w) :: Memory.write rest a v

/-- Canonical from address `lo` on: addresses strictly rising, inside the address space, no entry equal
to what an unlisted cell reads as. -/
def Memory.wfFrom : Nat → Memory → Bool
  | _, [] => true
  | lo, (k, v) :: rest =>
    decide (lo ≤ k) && decide (k < memBytes) && decide (v ≠ unwrittenByte) && Memory.wfFrom (k + 1) rest

/-- The canonical form of a memory: two memories of this form that hold the same bytes are equal. -/
def Memory.wf (m : Memory) : Bool := Memory.wfFrom 0 m

/-- `MemRead(addr, 1)` (R44): every 16-bit address is valid. -/
def State.read8 (s : State) (addr : Word) : Byte := Memory.read s.mem addr.toNat

/-- `MemWrite(addr, 1, v)` (R45): at every address, the cartridge region and the overlay too (R43). -/
def State.write8 (s : State) (addr : Word) (v : Byte) : State :=
  { s with mem := Memory.write s.mem addr.toNat v }

/-- `MemRead(addr, 2)`, the MMU's `read_word` (R46): little-endian, `addr + 1` wraps. No instruction uses
it. -/
def State.readWord (s : State) (addr : Word) : Word := joinBytes (s.read8 (addr + 1#16)) (s.read8 addr)

/-- `MemWrite(addr, 2, v)`, the MMU's `write_word` (R47): low byte first. No instruction uses it. -/
def State.writeWord (s : State) (addr v : Word) : State :=
  (s.write8 addr (lowByte v)).write8 (addr + 1#16) (highByte v)

/-! ### Registers (R10 to R13) -/

/-- `x[r]` for a half an operand code can name (R63); `F` has no code (R13). -/
def State.reg (s : State) : Reg8 → Byte
  | .b => s.b
  | .c => s.c
  | .d => s.d
  | .e => s.e
  | .h => s.h
  | .l => s.l
  | .a => s.a

/-- `x[r] <- v`: exactly those 8 bits change (R11). -/
def State.setReg (s : State) (r : Reg8) (v : Byte) : State :=
  match r with
  | .b => { s with b := v }
  | .c => { s with c := v }
  | .d => { s with d := v }
  | .e => { s with e := v }
  | .h => { s with h := v }
  | .l => { s with l := v }
  | .a => { s with a := v }

/-- The accessor `high()` of a pair (R11, R12). -/
def State.pairHigh (s : State) : Pair → Byte
  | .bc => s.b
  | .de => s.d
  | .hl => s.h
  | .af => s.a

/-- The accessor `low()` of a pair (R11, R12). -/
def State.pairLow (s : State) : Pair → Byte
  | .bc => s.c
  | .de => s.e
  | .hl => s.l
  | .af => s.f

/-- The accessor `combined()` of a pair: `high ++ low` (R11). -/
def State.pair (s : State) (p : Pair) : Word := joinBytes (s.pairHigh p) (s.pairLow p)

/-- A write to the high half of a pair (R11). -/
def State.setPairHigh (s : State) (p : Pair) (v : Byte) : State :=
  match p with
  | .bc => { s with b := v }
  | .de => { s with d := v }
  | .hl => { s with h := v }
  | .af => { s with a := v }

/-- A write to the low half of a pair (R11). -/
def State.setPairLow (s : State) (p : Pair) (v : Byte) : State :=
  match p with
  | .bc => { s with c := v }
  | .de => { s with e := v }
  | .hl => { s with l := v }
  | .af => { s with f := v }

/-- A 16-bit write to a pair writes both halves (R11). -/
def State.setPair (s : State) (p : Pair) (v : Word) : State :=
  (s.setPairHigh p (highByte v)).setPairLow p (lowByte v)

/-- `HL = x[H] ++ x[L]`, the address of every `(HL)` form (R66). -/
def State.hl (s : State) : Word := joinBytes s.h s.l

/-! ### The end of a handler (R84, R85, R87) -/

/-- `LEN_REG` (R2): a register form. -/
def lenReg : Word := 1#16

/-- `LEN_HL` (R2): a register-indirect-via-HL form. -/
def lenHL : Word := 1#16

/-- `LEN_IMM` (R2): an immediate form. -/
def lenImm : Word := 2#16

/-- `CYC_REG` (R2). -/
def cycReg : Word := 4#16

/-- `CYC_MEM` (R2). -/
def cycMem : Word := 8#16

/-- `pc <- (pc + len) mod 65536` and `cyc <- (cyc + cost) mod 65536` (R84, R85).  Length and cost are two
arguments: neither is derived from the other (R87). -/
def State.advance (s : State) (len cost : Word) : State :=
  { s with pc := s.pc + len, cycleCount := s.cycleCount + cost }

/-! ### Fetch (R81) -/

/-- The fetch writes the `opcode` latch before decoding (R23, R81). -/
def State.latchOpcode (s : State) (op : Byte) : State := { s with opcode := op }

/-- The bytes an instruction at `PC` can consist of, in order: the opcode at `PC` and the byte at
`(PC + 1) mod 65536` (R60, R65).  The decoder uses the second one for the 2-byte forms only; since reads
have no effect (R44), reading it here is the handler's own read of R83 (DEDUCED, assumption 8). -/
def State.fetchBytes (s : State) : List Byte := [s.read8 s.pc, s.read8 (s.pc + 1#16)]

/-! ### Taking the exception (R152) -/

/-- `raise UndefinedOpcode(opc, pc0)`: the fault latch is set and nothing else changes.  There is no
vector, no saved register and no mode.  There is no return from it either (R153): no operation clears the
latch, only reset builds a state without it. -/
def State.raiseUndefinedOpcode (s : State) (opc : Byte) (pc0 : Word) : State :=
  { s with fault := some ⟨opc, pc0⟩ }

end Sys2Proof.Machine
end

