-- ==== Sys2Proof/Machine/Flags.lean ====
section
/-! DEFINITION. The flags byte and every flag computation of the spec (`spec/10_state.md` R16 to R19,
`spec/43_alu_arith.md` R126, `spec/44_alu_logic.md` R130, `spec/42_incdec.md` R100). -/
namespace Sys2Proof.Machine

/-- The four named flags (R16). -/
inductive Flag where
  | z | n | h | c
  deriving DecidableEq, Repr

/-- The bit of `F` that holds a flag, under given positions (R16, R3). -/
def Flag.pos (p : FlagPositions) : Flag → Fin 8
  | .z => p.z
  | .n => p.n
  | .h => p.h
  | .c => p.c

/-- `get_flag(bit) = x[F][bit]` (R18). -/
def getFlag (f : Byte) (bit : Fin 8) : Bool := f.getLsbD bit.val

/-- `set_flag(value, bit)`: ORs the value, shifted into place (R18).  The value is one bit by type, which is
the contract "callers must pass `0` or `1`" (U6).  `set_flag(0, bit)` changes nothing. -/
def setFlag (f : Byte) (value : Bool) (bit : Fin 8) : Byte :=
  f ||| ((BitVec.ofBool value).setWidth 8 <<< bit.val)

/-- `clear_flag(bit)` (R18). -/
def clearFlag (f : Byte) (bit : Fin 8) : Byte := f &&& ~~~(1#8 <<< bit.val)

/-- `flag.X <- b`: `clear_flag` then `set_flag` (R18, conflict C4). -/
def assignFlag (p : FlagPositions) (f : Byte) (fl : Flag) (value : Bool) : Byte :=
  setFlag (clearFlag f (fl.pos p)) value (fl.pos p)

/-- The bit of `F` that holds a flag in this core (R16). -/
def State.flagPos (s : State) (fl : Flag) : Fin 8 := fl.pos s.params.flagPos

/-- The flag of a state. -/
def State.flag (s : State) (fl : Flag) : Bool := getFlag s.f (s.flagPos fl)

/-- The flag write of `INC` and `DEC`: Z, N, H; Carry and the bits that are no named flag's keep their
values (R100). -/
def writeZNH (p : FlagPositions) (f : Byte) (z n h : Bool) : Byte :=
  assignFlag p (assignFlag p (assignFlag p f .z z) .n n) .h h

/-- The flag write of every ALU instruction: Z, N, H, C; the bits that are no named flag's keep their
values (R110, R130). -/
def writeZNHC (p : FlagPositions) (f : Byte) (z n h c : Bool) : Byte :=
  assignFlag p (writeZNH p f z n h) .c c

/-- `v & 0x0F` as a number. -/
def lowNibble (v : Byte) : Nat := (v &&& 0x0F#8).toNat

/-! ### R126: exact sums and differences, then one reduction -/

/-- `add_res(a,b,cin) = (a + b + cin) mod 256`. -/
def addRes (a b : Byte) (cin : Bool) : Byte := BitVec.ofNat 8 (a.toNat + b.toNat + cin.toNat)

/-- `add_H`: carry out of bit 3. -/
def addH (a b : Byte) (cin : Bool) : Bool := decide (lowNibble a + lowNibble b + cin.toNat > 0x0F)

/-- `add_C`: carry out of bit 7. -/
def addC (a b : Byte) (cin : Bool) : Bool := decide (a.toNat + b.toNat + cin.toNat > 0xFF)

/-- `sub_res(a,b,cin) = (a - b - cin) mod 256`, the mathematical mod. -/
def subRes (a b : Byte) (cin : Bool) : Byte :=
  BitVec.ofInt 8 ((a.toNat : Int) - (b.toNat : Int) - (cin.toNat : Int))

/-- `sub_H`: borrow into bit 4. -/
def subH (a b : Byte) (cin : Bool) : Bool := decide (lowNibble a < lowNibble b + cin.toNat)

/-- `sub_C`: borrow; `b + cin` is exact and can be 256. -/
def subC (a b : Byte) (cin : Bool) : Bool := decide (b.toNat + cin.toNat > a.toNat)

/-! ### R100: increment and decrement -/

/-- `(v + 1) mod 256`. -/
def incRes (v : Byte) : Byte := BitVec.ofNat 8 (v.toNat + 1)

/-- Carry out of bit 3, from `v` before the wrap. -/
def incH (v : Byte) : Bool := decide (lowNibble v + 1 > 0x0F)

/-- `(v - 1) mod 256`. -/
def decRes (v : Byte) : Byte := BitVec.ofInt 8 ((v.toNat : Int) - 1)

/-- Borrow into bit 4, from `v` before the wrap. -/
def decH (v : Byte) : Bool := decide (lowNibble v < 1)

/-- Z is 1 iff the 8-bit result is 0 (R19). -/
def isZero (res : Byte) : Bool := decide (res = 0x00#8)

end Sys2Proof.Machine
end

