-- ==== Sys2Proof/Machine/Operands.lean ====
section
/-! DEFINITION. The operand forms (`spec/30_encoding.md` R65, R66): a register half, the byte at `HL`, the
immediate byte; and the three operand classes of the ALU (`spec/43_alu_arith.md` R110). -/
namespace Sys2Proof.Machine

/-- What can be written: a register half or the memory byte at `HL`. -/
inductive Place where
  | reg (r : Reg8)
  | atHL
  deriving DecidableEq, Repr

/-- Reading a place (R66); `HL` is not changed by the access. -/
def State.readPlace (s : State) : Place → Byte
  | .reg r => s.reg r
  | .atHL => s.read8 s.hl

/-- Writing a place (R66): one register half or one memory byte. -/
def State.writePlace (s : State) (p : Place) (v : Byte) : State :=
  match p with
  | .reg r => s.setReg r v
  | .atHL => s.write8 s.hl v

/-- The value of a source operand (R65, R66).  The immediate is the byte the decoder took from
`(PC + 1) mod 65536`, as it stands. -/
def State.operand (s : State) : Operand → Byte
  | .reg r => s.readPlace (.reg r)
  | .atHL => s.readPlace .atHL
  | .d8 v => v

/-- R110, class `A,r`: one byte, `CYC_REG`.  `op` gets the second operand and the state; both operands are
read before anything is written (R86). -/
def aluReg (op : Byte → State → State) (r : Reg8) (s : State) : Answer :=
  .next ((op (s.operand (.reg r)) s).advance lenReg cycReg)

/-- R110, class `A,(HL)`: one byte, `CYC_MEM`. -/
def aluAtHL (op : Byte → State → State) (s : State) : Answer :=
  .next ((op (s.operand .atHL) s).advance lenHL cycMem)

/-- R110, class `A,d8`: two bytes, `CYC_MEM`. -/
def aluD8 (op : Byte → State → State) (d8 : Byte) (s : State) : Answer :=
  .next ((op (s.operand (.d8 d8)) s).advance lenImm cycMem)

end Sys2Proof.Machine
end

