-- ==== Sys2Proof/Machine/AluArith.lean ====
section
/-! DEFINITION. 8-bit ALU arithmetic (`spec/43_alu_arith.md` R110 to R126): the effect of each operation on
`A` and `F` for a second operand `b`, then one meaning per opcode in the three operand classes. -/
namespace Sys2Proof.Machine

/-- `ADD` (R111): the incoming Carry is ignored. -/
def aluAdd (b : Byte) (s : State) : State :=
  let res := addRes s.a b false
  { s with a := res, f := writeZNHC s.params.flagPos s.f (isZero res) false (addH s.a b false) (addC s.a b false) }

/-- `ADC` (R114): the Carry before the step takes part in the result, in H and in C. -/
def aluAdc (b : Byte) (s : State) : State :=
  let cin := s.flag .c
  let res := addRes s.a b cin
  { s with a := res, f := writeZNHC s.params.flagPos s.f (isZero res) false (addH s.a b cin) (addC s.a b cin) }

/-- `SUB` (R117): the incoming Carry is ignored. -/
def aluSub (b : Byte) (s : State) : State :=
  let res := subRes s.a b false
  { s with a := res, f := writeZNHC s.params.flagPos s.f (isZero res) true (subH s.a b false) (subC s.a b false) }

/-- `SBC` (R120): the Carry before the step takes part in the result, in H and in C. -/
def aluSbc (b : Byte) (s : State) : State :=
  let cin := s.flag .c
  let res := subRes s.a b cin
  { s with a := res, f := writeZNHC s.params.flagPos s.f (isZero res) true (subH s.a b cin) (subC s.a b cin) }

/-- `CP` (R123): the flags of `SUB`; the result is discarded. -/
def aluCp (b : Byte) (s : State) : State :=
  let res := subRes s.a b false
  { s with f := writeZNHC s.params.flagPos s.f (isZero res) true (subH s.a b false) (subC s.a b false) }

/-- `ADD A,B` (R111) -/
def execAdd_A_B (s : State) : Answer := aluReg aluAdd .b s

/-- `ADD A,C` (R111) -/
def execAdd_A_C (s : State) : Answer := aluReg aluAdd .c s

/-- `ADD A,D` (R111) -/
def execAdd_A_D (s : State) : Answer := aluReg aluAdd .d s

/-- `ADD A,E` (R111) -/
def execAdd_A_E (s : State) : Answer := aluReg aluAdd .e s

/-- `ADD A,H` (R111) -/
def execAdd_A_H (s : State) : Answer := aluReg aluAdd .h s

/-- `ADD A,L` (R111) -/
def execAdd_A_L (s : State) : Answer := aluReg aluAdd .l s

/-- `ADD A,(HL)` (R112) -/
def execAdd_A_atHL (s : State) : Answer := aluAtHL aluAdd s

/-- `ADD A,A` (R111) -/
def execAdd_A_A (s : State) : Answer := aluReg aluAdd .a s

/-- `ADC A,B` (R114) -/
def execAdc_A_B (s : State) : Answer := aluReg aluAdc .b s

/-- `ADC A,C` (R114) -/
def execAdc_A_C (s : State) : Answer := aluReg aluAdc .c s

/-- `ADC A,D` (R114) -/
def execAdc_A_D (s : State) : Answer := aluReg aluAdc .d s

/-- `ADC A,E` (R114) -/
def execAdc_A_E (s : State) : Answer := aluReg aluAdc .e s

/-- `ADC A,H` (R114) -/
def execAdc_A_H (s : State) : Answer := aluReg aluAdc .h s

/-- `ADC A,L` (R114) -/
def execAdc_A_L (s : State) : Answer := aluReg aluAdc .l s

/-- `ADC A,(HL)` (R115) -/
def execAdc_A_atHL (s : State) : Answer := aluAtHL aluAdc s

/-- `ADC A,A` (R114) -/
def execAdc_A_A (s : State) : Answer := aluReg aluAdc .a s

/-- `SUB A,B` (R117) -/
def execSub_A_B (s : State) : Answer := aluReg aluSub .b s

/-- `SUB A,C` (R117) -/
def execSub_A_C (s : State) : Answer := aluReg aluSub .c s

/-- `SUB A,D` (R117) -/
def execSub_A_D (s : State) : Answer := aluReg aluSub .d s

/-- `SUB A,E` (R117) -/
def execSub_A_E (s : State) : Answer := aluReg aluSub .e s

/-- `SUB A,H` (R117) -/
def execSub_A_H (s : State) : Answer := aluReg aluSub .h s

/-- `SUB A,L` (R117) -/
def execSub_A_L (s : State) : Answer := aluReg aluSub .l s

/-- `SUB A,(HL)` (R118) -/
def execSub_A_atHL (s : State) : Answer := aluAtHL aluSub s

/-- `SUB A,A` (R117) -/
def execSub_A_A (s : State) : Answer := aluReg aluSub .a s

/-- `SBC A,B` (R120) -/
def execSbc_A_B (s : State) : Answer := aluReg aluSbc .b s

/-- `SBC A,C` (R120) -/
def execSbc_A_C (s : State) : Answer := aluReg aluSbc .c s

/-- `SBC A,D` (R120) -/
def execSbc_A_D (s : State) : Answer := aluReg aluSbc .d s

/-- `SBC A,E` (R120) -/
def execSbc_A_E (s : State) : Answer := aluReg aluSbc .e s

/-- `SBC A,H` (R120) -/
def execSbc_A_H (s : State) : Answer := aluReg aluSbc .h s

/-- `SBC A,L` (R120) -/
def execSbc_A_L (s : State) : Answer := aluReg aluSbc .l s

/-- `SBC A,(HL)` (R121) -/
def execSbc_A_atHL (s : State) : Answer := aluAtHL aluSbc s

/-- `SBC A,A` (R120) -/
def execSbc_A_A (s : State) : Answer := aluReg aluSbc .a s

/-- `CP A,B` (R123) -/
def execCp_A_B (s : State) : Answer := aluReg aluCp .b s

/-- `CP A,C` (R123) -/
def execCp_A_C (s : State) : Answer := aluReg aluCp .c s

/-- `CP A,D` (R123) -/
def execCp_A_D (s : State) : Answer := aluReg aluCp .d s

/-- `CP A,E` (R123) -/
def execCp_A_E (s : State) : Answer := aluReg aluCp .e s

/-- `CP A,H` (R123) -/
def execCp_A_H (s : State) : Answer := aluReg aluCp .h s

/-- `CP A,L` (R123) -/
def execCp_A_L (s : State) : Answer := aluReg aluCp .l s

/-- `CP A,(HL)` (R124) -/
def execCp_A_atHL (s : State) : Answer := aluAtHL aluCp s

/-- `CP A,A` (R123) -/
def execCp_A_A (s : State) : Answer := aluReg aluCp .a s

/-- `ADD A,d8` (R113) -/
def execAdd_A_d8 (d8 : Byte) (s : State) : Answer := aluD8 aluAdd d8 s

/-- `ADC A,d8` (R116) -/
def execAdc_A_d8 (d8 : Byte) (s : State) : Answer := aluD8 aluAdc d8 s

/-- `SUB A,d8` (R119) -/
def execSub_A_d8 (d8 : Byte) (s : State) : Answer := aluD8 aluSub d8 s

/-- `SBC A,d8` (R122) -/
def execSbc_A_d8 (d8 : Byte) (s : State) : Answer := aluD8 aluSbc d8 s

/-- `CP A,d8` (R125) -/
def execCp_A_d8 (d8 : Byte) (s : State) : Answer := aluD8 aluCp d8 s

end Sys2Proof.Machine
end

