-- ==== Sys2Proof/Machine/AluLogic.lean ====
section
/-! DEFINITION. 8-bit ALU logic (`spec/44_alu_logic.md` R130 to R139): the effect of each operation on `A`
and `F` for a second operand `b`, then one meaning per opcode in the three operand classes. -/
namespace Sys2Proof.Machine

/-- `AND` (R130, R131): Half-Carry is always 1, Carry always 0. -/
def aluAnd (b : Byte) (s : State) : State :=
  let res := s.a &&& b
  { s with a := res, f := writeZNHC s.params.flagPos s.f (isZero res) false true false }

/-- `XOR` (R130, R134): Half-Carry and Carry are always 0. -/
def aluXor (b : Byte) (s : State) : State :=
  let res := s.a ^^^ b
  { s with a := res, f := writeZNHC s.params.flagPos s.f (isZero res) false false false }

/-- `OR` (R130, R137): Half-Carry and Carry are always 0. -/
def aluOr (b : Byte) (s : State) : State :=
  let res := s.a ||| b
  { s with a := res, f := writeZNHC s.params.flagPos s.f (isZero res) false false false }

/-- `AND A,B` (R131) -/
def execAnd_A_B (s : State) : Answer := aluReg aluAnd .b s

/-- `AND A,C` (R131) -/
def execAnd_A_C (s : State) : Answer := aluReg aluAnd .c s

/-- `AND A,D` (R131) -/
def execAnd_A_D (s : State) : Answer := aluReg aluAnd .d s

/-- `AND A,E` (R131) -/
def execAnd_A_E (s : State) : Answer := aluReg aluAnd .e s

/-- `AND A,H` (R131) -/
def execAnd_A_H (s : State) : Answer := aluReg aluAnd .h s

/-- `AND A,L` (R131) -/
def execAnd_A_L (s : State) : Answer := aluReg aluAnd .l s

/-- `AND A,(HL)` (R132) -/
def execAnd_A_atHL (s : State) : Answer := aluAtHL aluAnd s

/-- `AND A,A` (R131) -/
def execAnd_A_A (s : State) : Answer := aluReg aluAnd .a s

/-- `XOR A,B` (R134) -/
def execXor_A_B (s : State) : Answer := aluReg aluXor .b s

/-- `XOR A,C` (R134) -/
def execXor_A_C (s : State) : Answer := aluReg aluXor .c s

/-- `XOR A,D` (R134) -/
def execXor_A_D (s : State) : Answer := aluReg aluXor .d s

/-- `XOR A,E` (R134) -/
def execXor_A_E (s : State) : Answer := aluReg aluXor .e s

/-- `XOR A,H` (R134) -/
def execXor_A_H (s : State) : Answer := aluReg aluXor .h s

/-- `XOR A,L` (R134) -/
def execXor_A_L (s : State) : Answer := aluReg aluXor .l s

/-- `XOR A,(HL)` (R135) -/
def execXor_A_atHL (s : State) : Answer := aluAtHL aluXor s

/-- `XOR A,A` (R134) -/
def execXor_A_A (s : State) : Answer := aluReg aluXor .a s

/-- `OR A,B` (R137) -/
def execOr_A_B (s : State) : Answer := aluReg aluOr .b s

/-- `OR A,C` (R137) -/
def execOr_A_C (s : State) : Answer := aluReg aluOr .c s

/-- `OR A,D` (R137) -/
def execOr_A_D (s : State) : Answer := aluReg aluOr .d s

/-- `OR A,E` (R137) -/
def execOr_A_E (s : State) : Answer := aluReg aluOr .e s

/-- `OR A,H` (R137) -/
def execOr_A_H (s : State) : Answer := aluReg aluOr .h s

/-- `OR A,L` (R137) -/
def execOr_A_L (s : State) : Answer := aluReg aluOr .l s

/-- `OR A,(HL)` (R138) -/
def execOr_A_atHL (s : State) : Answer := aluAtHL aluOr s

/-- `OR A,A` (R137) -/
def execOr_A_A (s : State) : Answer := aluReg aluOr .a s

/-- `AND A,d8` (R133) -/
def execAnd_A_d8 (d8 : Byte) (s : State) : Answer := aluD8 aluAnd d8 s

/-- `XOR A,d8` (R136) -/
def execXor_A_d8 (d8 : Byte) (s : State) : Answer := aluD8 aluXor d8 s

/-- `OR A,d8` (R139) -/
def execOr_A_d8 (d8 : Byte) (s : State) : Answer := aluD8 aluOr d8 s

end Sys2Proof.Machine
end

