-- ==== Sys2Proof/Machine/IncDec.lean ====
section
/-! DEFINITION. 8-bit increment and decrement (`spec/42_incdec.md` R100 to R104). -/
namespace Sys2Proof.Machine

/-- R100, `INC`: the operand plus one, written back; Z, N, H from the value before the wrap. -/
def incPlace (p : Place) (s : State) : State :=
  let v := s.readPlace p
  let s' := s.writePlace p (incRes v)
  { s' with f := writeZNH s.params.flagPos s.f (isZero (incRes v)) false (incH v) }

/-- R100, `DEC`: the operand minus one, written back; Z, N, H from the value before the wrap. -/
def decPlace (p : Place) (s : State) : State :=
  let v := s.readPlace p
  let s' := s.writePlace p (decRes v)
  { s' with f := writeZNH s.params.flagPos s.f (isZero (decRes v)) true (decH v) }

/-- `INC r` (R101). -/
def incReg (r : Reg8) (s : State) : Answer := .next ((incPlace (.reg r) s).advance lenReg cycReg)

/-- `INC (HL)` (R102): a read and a write of one cell, cost `CYC_MEM2`. -/
def incAtHL (s : State) : Answer := .next ((incPlace .atHL s).advance lenHL s.params.cycMem2)

/-- `DEC r` (R103). -/
def decReg (r : Reg8) (s : State) : Answer := .next ((decPlace (.reg r) s).advance lenReg cycReg)

/-- `DEC (HL)` (R104): a read and a write of one cell, cost `CYC_MEM2`. -/
def decAtHL (s : State) : Answer := .next ((decPlace .atHL s).advance lenHL s.params.cycMem2)

/-- `INC B` (R101) -/
def execInc_B (s : State) : Answer := incReg .b s

/-- `DEC B` (R103) -/
def execDec_B (s : State) : Answer := decReg .b s

/-- `INC C` (R101) -/
def execInc_C (s : State) : Answer := incReg .c s

/-- `DEC C` (R103) -/
def execDec_C (s : State) : Answer := decReg .c s

/-- `INC D` (R101) -/
def execInc_D (s : State) : Answer := incReg .d s

/-- `DEC D` (R103) -/
def execDec_D (s : State) : Answer := decReg .d s

/-- `INC E` (R101) -/
def execInc_E (s : State) : Answer := incReg .e s

/-- `DEC E` (R103) -/
def execDec_E (s : State) : Answer := decReg .e s

/-- `INC H` (R101) -/
def execInc_H (s : State) : Answer := incReg .h s

/-- `DEC H` (R103) -/
def execDec_H (s : State) : Answer := decReg .h s

/-- `INC L` (R101) -/
def execInc_L (s : State) : Answer := incReg .l s

/-- `DEC L` (R103) -/
def execDec_L (s : State) : Answer := decReg .l s

/-- `INC (HL)` (R102) -/
def execInc_atHL (s : State) : Answer := incAtHL s

/-- `DEC (HL)` (R104) -/
def execDec_atHL (s : State) : Answer := decAtHL s

/-- `INC A` (R101) -/
def execInc_A (s : State) : Answer := incReg .a s

/-- `DEC A` (R103) -/
def execDec_A (s : State) : Answer := decReg .a s

end Sys2Proof.Machine
end

