-- ==== Sys2Proof/Machine/Load.lean ====
section
/-! DEFINITION. The loads (`spec/41_load.md` R90 to R95): the five forms, then one meaning per opcode. -/
namespace Sys2Proof.Machine

/-- R90: copy the source to the one destination, write no flag, then advance. -/
def loadInto (dst : Place) (src : Operand) (len cost : Word) (s : State) : Answer :=
  .next ((s.writePlace dst (s.operand src)).advance len cost)

/-- `LD r,r'` (R91). -/
def ldRegReg (r r' : Reg8) (s : State) : Answer := loadInto (.reg r) (.reg r') lenReg cycReg s

/-- `LD r,(HL)` (R92): the address is the old `HL`, also when `r` is `H` or `L`. -/
def ldRegAtHL (r : Reg8) (s : State) : Answer := loadInto (.reg r) .atHL lenHL cycMem s

/-- `LD (HL),r` (R93). -/
def ldAtHLReg (r : Reg8) (s : State) : Answer := loadInto .atHL (.reg r) lenHL cycMem s

/-- `LD r,d8` (R94). -/
def ldRegD8 (r : Reg8) (d8 : Byte) (s : State) : Answer := loadInto (.reg r) (.d8 d8) lenImm cycMem s

/-- `LD (HL),d8` (R95): two operand accesses, so its cost is `CYC_MEM2` (R85). -/
def ldAtHLD8 (d8 : Byte) (s : State) : Answer := loadInto .atHL (.d8 d8) lenImm s.params.cycMem2 s

/-- `LD B,d8` (R94) -/
def execLd_B_d8 (d8 : Byte) (s : State) : Answer := ldRegD8 .b d8 s

/-- `LD C,d8` (R94) -/
def execLd_C_d8 (d8 : Byte) (s : State) : Answer := ldRegD8 .c d8 s

/-- `LD D,d8` (R94) -/
def execLd_D_d8 (d8 : Byte) (s : State) : Answer := ldRegD8 .d d8 s

/-- `LD E,d8` (R94) -/
def execLd_E_d8 (d8 : Byte) (s : State) : Answer := ldRegD8 .e d8 s

/-- `LD H,d8` (R94) -/
def execLd_H_d8 (d8 : Byte) (s : State) : Answer := ldRegD8 .h d8 s

/-- `LD L,d8` (R94) -/
def execLd_L_d8 (d8 : Byte) (s : State) : Answer := ldRegD8 .l d8 s

/-- `LD (HL),d8` (R95) -/
def execLd_atHL_d8 (d8 : Byte) (s : State) : Answer := ldAtHLD8 d8 s

/-- `LD A,d8` (R94) -/
def execLd_A_d8 (d8 : Byte) (s : State) : Answer := ldRegD8 .a d8 s

/-- `LD B,B` (R91) -/
def execLd_B_B (s : State) : Answer := ldRegReg .b .b s

/-- `LD B,C` (R91) -/
def execLd_B_C (s : State) : Answer := ldRegReg .b .c s

/-- `LD B,D` (R91) -/
def execLd_B_D (s : State) : Answer := ldRegReg .b .d s

/-- `LD B,E` (R91) -/
def execLd_B_E (s : State) : Answer := ldRegReg .b .e s

/-- `LD B,H` (R91) -/
def execLd_B_H (s : State) : Answer := ldRegReg .b .h s

/-- `LD B,L` (R91) -/
def execLd_B_L (s : State) : Answer := ldRegReg .b .l s

/-- `LD B,(HL)` (R92) -/
def execLd_B_atHL (s : State) : Answer := ldRegAtHL .b s

/-- `LD B,A` (R91) -/
def execLd_B_A (s : State) : Answer := ldRegReg .b .a s

/-- `LD C,B` (R91) -/
def execLd_C_B (s : State) : Answer := ldRegReg .c .b s

/-- `LD C,C` (R91) -/
def execLd_C_C (s : State) : Answer := ldRegReg .c .c s

/-- `LD C,D` (R91) -/
def execLd_C_D (s : State) : Answer := ldRegReg .c .d s

/-- `LD C,E` (R91) -/
def execLd_C_E (s : State) : Answer := ldRegReg .c .e s

/-- `LD C,H` (R91) -/
def execLd_C_H (s : State) : Answer := ldRegReg .c .h s

/-- `LD C,L` (R91) -/
def execLd_C_L (s : State) : Answer := ldRegReg .c .l s

/-- `LD C,(HL)` (R92) -/
def execLd_C_atHL (s : State) : Answer := ldRegAtHL .c s

/-- `LD C,A` (R91) -/
def execLd_C_A (s : State) : Answer := ldRegReg .c .a s

/-- `LD D,B` (R91) -/
def execLd_D_B (s : State) : Answer := ldRegReg .d .b s

/-- `LD D,C` (R91) -/
def execLd_D_C (s : State) : Answer := ldRegReg .d .c s

/-- `LD D,D` (R91) -/
def execLd_D_D (s : State) : Answer := ldRegReg .d .d s

/-- `LD D,E` (R91) -/
def execLd_D_E (s : State) : Answer := ldRegReg .d .e s

/-- `LD D,H` (R91) -/
def execLd_D_H (s : State) : Answer := ldRegReg .d .h s

/-- `LD D,L` (R91) -/
def execLd_D_L (s : State) : Answer := ldRegReg .d .l s

/-- `LD D,(HL)` (R92) -/
def execLd_D_atHL (s : State) : Answer := ldRegAtHL .d s

/-- `LD D,A` (R91) -/
def execLd_D_A (s : State) : Answer := ldRegReg .d .a s

/-- `LD E,B` (R91) -/
def execLd_E_B (s : State) : Answer := ldRegReg .e .b s

/-- `LD E,C` (R91) -/
def execLd_E_C (s : State) : Answer := ldRegReg .e .c s

/-- `LD E,D` (R91) -/
def execLd_E_D (s : State) : Answer := ldRegReg .e .d s

/-- `LD E,E` (R91) -/
def execLd_E_E (s : State) : Answer := ldRegReg .e .e s

/-- `LD E,H` (R91) -/
def execLd_E_H (s : State) : Answer := ldRegReg .e .h s

/-- `LD E,L` (R91) -/
def execLd_E_L (s : State) : Answer := ldRegReg .e .l s

/-- `LD E,(HL)` (R92) -/
def execLd_E_atHL (s : State) : Answer := ldRegAtHL .e s

/-- `LD E,A` (R91) -/
def execLd_E_A (s : State) : Answer := ldRegReg .e .a s

/-- `LD H,B` (R91) -/
def execLd_H_B (s : State) : Answer := ldRegReg .h .b s

/-- `LD H,C` (R91) -/
def execLd_H_C (s : State) : Answer := ldRegReg .h .c s

/-- `LD H,D` (R91) -/
def execLd_H_D (s : State) : Answer := ldRegReg .h .d s

/-- `LD H,E` (R91) -/
def execLd_H_E (s : State) : Answer := ldRegReg .h .e s

/-- `LD H,H` (R91) -/
def execLd_H_H (s : State) : Answer := ldRegReg .h .h s

/-- `LD H,L` (R91) -/
def execLd_H_L (s : State) : Answer := ldRegReg .h .l s

/-- `LD H,(HL)` (R92) -/
def execLd_H_atHL (s : State) : Answer := ldRegAtHL .h s

/-- `LD H,A` (R91) -/
def execLd_H_A (s : State) : Answer := ldRegReg .h .a s

/-- `LD L,B` (R91) -/
def execLd_L_B (s : State) : Answer := ldRegReg .l .b s

/-- `LD L,C` (R91) -/
def execLd_L_C (s : State) : Answer := ldRegReg .l .c s

/-- `LD L,D` (R91) -/
def execLd_L_D (s : State) : Answer := ldRegReg .l .d s

/-- `LD L,E` (R91) -/
def execLd_L_E (s : State) : Answer := ldRegReg .l .e s

/-- `LD L,H` (R91) -/
def execLd_L_H (s : State) : Answer := ldRegReg .l .h s

/-- `LD L,L` (R91) -/
def execLd_L_L (s : State) : Answer := ldRegReg .l .l s

/-- `LD L,(HL)` (R92) -/
def execLd_L_atHL (s : State) : Answer := ldRegAtHL .l s

/-- `LD L,A` (R91) -/
def execLd_L_A (s : State) : Answer := ldRegReg .l .a s

/-- `LD (HL),B` (R93) -/
def execLd_atHL_B (s : State) : Answer := ldAtHLReg .b s

/-- `LD (HL),C` (R93) -/
def execLd_atHL_C (s : State) : Answer := ldAtHLReg .c s

/-- `LD (HL),D` (R93) -/
def execLd_atHL_D (s : State) : Answer := ldAtHLReg .d s

/-- `LD (HL),E` (R93) -/
def execLd_atHL_E (s : State) : Answer := ldAtHLReg .e s

/-- `LD (HL),H` (R93) -/
def execLd_atHL_H (s : State) : Answer := ldAtHLReg .h s

/-- `LD (HL),L` (R93) -/
def execLd_atHL_L (s : State) : Answer := ldAtHLReg .l s

/-- `LD (HL),A` (R93) -/
def execLd_atHL_A (s : State) : Answer := ldAtHLReg .a s

/-- `LD A,B` (R91) -/
def execLd_A_B (s : State) : Answer := ldRegReg .a .b s

/-- `LD A,C` (R91) -/
def execLd_A_C (s : State) : Answer := ldRegReg .a .c s

/-- `LD A,D` (R91) -/
def execLd_A_D (s : State) : Answer := ldRegReg .a .d s

/-- `LD A,E` (R91) -/
def execLd_A_E (s : State) : Answer := ldRegReg .a .e s

/-- `LD A,H` (R91) -/
def execLd_A_H (s : State) : Answer := ldRegReg .a .h s

/-- `LD A,L` (R91) -/
def execLd_A_L (s : State) : Answer := ldRegReg .a .l s

/-- `LD A,(HL)` (R92) -/
def execLd_A_atHL (s : State) : Answer := ldRegAtHL .a s

/-- `LD A,A` (R91) -/
def execLd_A_A (s : State) : Answer := ldRegReg .a .a s

end Sys2Proof.Machine
end

