-- ==== Sys2Proof/Machine/Step.lean ====
section
/-! DEFINITION. One step (`spec/40_step_cycle.md` R80 to R83), and placing an instruction where the next
step fetches it. -/
namespace Sys2Proof.Machine

/-- One step (R80).  While the fault latch is set no step is taken and the state stays as it is (R153).
Otherwise: fetch into the `opcode` latch (R81), decode, and either run the handler or raise
`UndefinedOpcode` (R152), whose entry is a next state. -/
def step (s : State) : Host.Outcome State Fault Refusal :=
  match s.fault with
  | some _ => .next s
  | none =>
    match decode s.fetchBytes with
    | .ok (i, _) => exec i (s.latchOpcode (s.read8 s.pc))
    | .error _ =>
      .next ((s.latchOpcode (s.read8 s.pc)).raiseUndefinedOpcode (s.read8 s.pc) s.pc)

/-- `s` with the instruction of the word `w` (numbered as `spec/opcode_table.json` numbers it, bits above
`nbits` zero) at `PC`, its immediate byte at `PC + 1` where the opcode has one, and the core able to
step. -/
def State.withFetchWord (s : State) (nbits w : Nat) : State :=
  let word := w % 2 ^ nbits
  let op : Byte := BitVec.ofNat 8 word
  let placed := s.write8 s.pc op
  let placed :=
    if hasImmediate op then placed.write8 (s.pc + 1#16) (BitVec.ofNat 8 (word / 256)) else placed
  { placed with fault := none }

end Sys2Proof.Machine
end

