-- ==== Sys2Proof/Machine/Bus.lean ====
section
/-! DEFINITION. The transactions between the core and the MMU (`spec/20_memory.md` R51, R57): what a step
issues, in order, as a function of the state it starts from.  It is an observation, not state (R25). -/
namespace Sys2Proof.Machine

/-- A byte transaction, with the byte a read returned or a write carried (R57). -/
inductive Transaction where
  | read (addr : Word) (v : Byte)
  | write (addr : Word) (v : Byte)
  deriving DecidableEq, Repr

/-- The read of the immediate at `PC + 1` (R65). -/
def immediateRead (s : State) : Transaction := .read (s.pc + 1#16) (s.read8 (s.pc + 1#16))

/-- The read of the byte at `HL` (R66). -/
def hlRead (s : State) : Transaction := .read s.hl (s.read8 s.hl)

/-- The operand transactions of a form, in order, after the opcode fetch (R51's table). -/
def operandTransactions (s : State) : Asm → List Transaction
  | .ld (.reg _) (.reg _) => []
  | .ld (.reg _) .atHL => [hlRead s]
  | .ld .atHL (.reg r) => [.write s.hl (s.reg r)]
  | .ld (.reg _) (.d8 _) => [immediateRead s]
  | .ld .atHL (.d8 v) => [immediateRead s, .write s.hl v]
  | .inc (.reg _) => []
  | .inc .atHL => [hlRead s, .write s.hl (incRes (s.read8 s.hl))]
  | .dec (.reg _) => []
  | .dec .atHL => [hlRead s, .write s.hl (decRes (s.read8 s.hl))]
  | .alu _ (.reg _) => []
  | .alu _ .atHL => [hlRead s]
  | .alu _ (.d8 _) => [immediateRead s]
  -- no instruction has these shapes (R68, R72)
  | .ld (.d8 _) _ => []
  | .ld .atHL .atHL => []
  | .inc (.d8 _) => []
  | .dec (.d8 _) => []

/-- The transactions of one step: none while faulted (R153); the fetch alone for an undefined opcode; the
fetch and the form's own otherwise (R51). -/
def stepTransactions (s : State) : List Transaction :=
  match s.fault with
  | some _ => []
  | none =>
    .read s.pc (s.read8 s.pc) ::
      match decode s.fetchBytes with
      | .ok (i, _) => operandTransactions s i.asm
      | .error _ => []

/-- What a transaction does to the array (R44, R45). -/
def Transaction.apply (m : Memory) : Transaction → Memory
  | .read _ _ => m
  | .write addr v => Memory.write m addr.toNat v

end Sys2Proof.Machine
end

