-- ==== Sys2Proof/Machine/Reset.lean ====
section
/-! DEFINITION. Reset with the parameters of `spec/00_scope.md` R3 free (`spec/70_reset_and_hazards.md` R170 to
R173).  `State.reset` is this at the standard parameters (`resetWith_standard`, `Laws/Reset.lean`). -/
namespace Sys2Proof.Machine

/-- The reset byte of address `a` (R172): the overlay wins in the overlap, then the cartridge, then the
fill. -/
def resetByte (p : ResetParams) (a : Nat) : Byte :=
  if a ≤ 0x00FF then p.bootImage.getD a 0x00#8
  else if 0x0100 ≤ a ∧ a ≤ 0x7FFF ∧ a < p.cartImage.length then p.cartImage.getD a 0x00#8
  else p.initFill

/-- The canonical memory that holds `bytes a` at the `n` addresses from `lo` on, for bytes given as a
rule. -/
def Memory.tabulate (bytes : Nat → Byte) : Nat → Nat → Memory
  | _, 0 => []
  | lo, n + 1 =>
    if bytes lo = unwrittenByte then Memory.tabulate bytes (lo + 1) n
    else (lo, bytes lo) :: Memory.tabulate bytes (lo + 1) n

/-- The reset memory image (R33, R172). -/
def resetImage (p : ResetParams) : Memory := Memory.tabulate (resetByte p) 0 memBytes

/-- Reset (R170): the registers take their parameters (R30, R31), `cycle_count` and `opcode` are 0 and
`fault` is `None` (R32), memory is the image; the core keeps the flag positions and `CYC_MEM2` it was given
(R3).  Parameters of the wrong size are refused: reset is not
defined for them (R173). -/
def resetWith (p : ResetParams) : Option State :=
  if p.wf then
    some {
      a := highByte p.resetAf
      f := lowByte p.resetAf
      b := highByte p.resetBc
      c := lowByte p.resetBc
      d := highByte p.resetDe
      e := lowByte p.resetDe
      h := highByte p.resetHl
      l := lowByte p.resetHl
      pc := p.resetPc
      sp := p.resetSp
      cycleCount := 0x0000#16
      opcode := 0x00#8
      mem := resetImage p
      fault := none
      params := ⟨p.flagPos, p.cycMem2⟩ }
  else none

end Sys2Proof.Machine
end

