-- ==== Sys2Proof/Safety.lean ====
section
/-! DEFINITION. Runs, and what counts as a safe one (`spec/70_reset_and_hazards.md` R184, R185). -/
namespace Sys2Proof.Machine

/-- The states of the runs from reset with parameters `p`: the host resets once and then steps as often as
it likes (R184, R185). -/
inductive Reachable (p : ResetParams) : State → Prop where
  | reset {s : State} (h : resetWith p = some s) : Reachable p s
  | more {s t : State} (h : Reachable p s) (hs : step s = .next t) : Reachable p t

/-- The states that can follow a state. -/
inductive Follows (s : State) : State → Prop where
  | here : Follows s s
  | more {t u : State} (h : Follows s t) (hs : step t = .next u) : Follows s u

/-- R185: after exactly `n` steps from `s` the machine has not faulted.  A faulted state is never a
successful end of a run (R153). -/
def SafeFor (n : Nat) (s : State) : Prop :=
  ∃ t, Host.Core.run Sys2Proof.core n s = .next t ∧ t.fault = none

/-- R152: what the fault latch says is what the machine holds.  The offending byte is in the `opcode` latch
and in memory at `PC`, and it is undefined. -/
def State.faultPrecise (s : State) : Prop :=
  ∀ u, s.fault = some u →
    u.pc = s.pc ∧ u.opcode = s.opcode ∧ s.read8 s.pc = u.opcode ∧
      decode s.fetchBytes = .error (.undefinedOpcode u.opcode)

/-- The invariant of the machine: memory in its canonical form, and a precise fault. -/
structure State.Inv (s : State) : Prop where
  memWf : Memory.wf s.mem = true
  precise : s.faultPrecise

end Sys2Proof.Machine
end

