-- ==== Sys2Proof/Certificates/Slice0/Obligations.lean ====
section
/-! DEFINITION. The statements for the provers.  The tables here are written out from the spec, one entry per
opcode, so that a reader sees which instructions a statement speaks of. -/
namespace Sys2Proof.Slice0
open Sys2Proof.Machine

/-! ### Tables -/

/-- The 97 opcode values with no handler, as `spec/30_encoding.md` R68 lists them. -/
def undefinedOpcodes : List Byte :=
  [0x00#8, 0x01#8, 0x02#8, 0x03#8, 0x07#8, 0x08#8, 0x09#8, 0x0A#8, 0x0B#8, 0x0F#8, 0x10#8, 0x11#8, 0x12#8, 0x13#8] ++
  [0x17#8, 0x18#8, 0x19#8, 0x1A#8, 0x1B#8, 0x1F#8, 0x20#8, 0x21#8, 0x22#8, 0x23#8, 0x27#8, 0x28#8, 0x29#8, 0x2A#8] ++
  [0x2B#8, 0x2F#8, 0x30#8, 0x31#8, 0x32#8, 0x33#8, 0x37#8, 0x38#8, 0x39#8, 0x3A#8, 0x3B#8, 0x3F#8, 0x76#8, 0xC0#8] ++
  [0xC1#8, 0xC2#8, 0xC3#8, 0xC4#8, 0xC5#8, 0xC7#8, 0xC8#8, 0xC9#8, 0xCA#8, 0xCB#8, 0xCC#8, 0xCD#8, 0xCF#8, 0xD0#8] ++
  [0xD1#8, 0xD2#8, 0xD3#8, 0xD4#8, 0xD5#8, 0xD7#8, 0xD8#8, 0xD9#8, 0xDA#8, 0xDB#8, 0xDC#8, 0xDD#8, 0xDF#8, 0xE0#8] ++
  [0xE1#8, 0xE2#8, 0xE3#8, 0xE4#8, 0xE5#8, 0xE7#8, 0xE8#8, 0xE9#8, 0xEA#8, 0xEB#8, 0xEC#8, 0xED#8, 0xEF#8, 0xF0#8] ++
  [0xF1#8, 0xF2#8, 0xF3#8, 0xF4#8, 0xF5#8, 0xF7#8, 0xF8#8, 0xF9#8, 0xFA#8, 0xFB#8, 0xFC#8, 0xFD#8, 0xFF#8]

/-- The 49 `LD r,r'` (R91): instruction, destination, source. -/
def ldRegRegTable : List (Instr × Reg8 × Reg8) :=
  List.flatten [
    [(.ld_B_B, .b, .b), (.ld_B_C, .b, .c), (.ld_B_D, .b, .d), (.ld_B_E, .b, .e), (.ld_B_H, .b, .h), (.ld_B_L, .b, .l), (.ld_B_A, .b, .a)],
    [(.ld_C_B, .c, .b), (.ld_C_C, .c, .c), (.ld_C_D, .c, .d), (.ld_C_E, .c, .e), (.ld_C_H, .c, .h), (.ld_C_L, .c, .l), (.ld_C_A, .c, .a)],
    [(.ld_D_B, .d, .b), (.ld_D_C, .d, .c), (.ld_D_D, .d, .d), (.ld_D_E, .d, .e), (.ld_D_H, .d, .h), (.ld_D_L, .d, .l), (.ld_D_A, .d, .a)],
    [(.ld_E_B, .e, .b), (.ld_E_C, .e, .c), (.ld_E_D, .e, .d), (.ld_E_E, .e, .e), (.ld_E_H, .e, .h), (.ld_E_L, .e, .l), (.ld_E_A, .e, .a)],
    [(.ld_H_B, .h, .b), (.ld_H_C, .h, .c), (.ld_H_D, .h, .d), (.ld_H_E, .h, .e), (.ld_H_H, .h, .h), (.ld_H_L, .h, .l), (.ld_H_A, .h, .a)],
    [(.ld_L_B, .l, .b), (.ld_L_C, .l, .c), (.ld_L_D, .l, .d), (.ld_L_E, .l, .e), (.ld_L_H, .l, .h), (.ld_L_L, .l, .l), (.ld_L_A, .l, .a)],
    [(.ld_A_B, .a, .b), (.ld_A_C, .a, .c), (.ld_A_D, .a, .d), (.ld_A_E, .a, .e), (.ld_A_H, .a, .h), (.ld_A_L, .a, .l), (.ld_A_A, .a, .a)]]

/-- The 7 `LD r,(HL)` (R92): instruction, destination. -/
def ldRegAtHLTable : List (Instr × Reg8) :=
  [(.ld_B_atHL, .b), (.ld_C_atHL, .c), (.ld_D_atHL, .d), (.ld_E_atHL, .e), (.ld_H_atHL, .h), (.ld_L_atHL, .l), (.ld_A_atHL, .a)]

/-- The 7 `LD (HL),r` (R93): instruction, source. -/
def ldAtHLRegTable : List (Instr × Reg8) :=
  [(.ld_atHL_B, .b), (.ld_atHL_C, .c), (.ld_atHL_D, .d), (.ld_atHL_E, .e), (.ld_atHL_H, .h), (.ld_atHL_L, .l), (.ld_atHL_A, .a)]

/-- The 7 `LD r,d8` (R94): instruction, destination. -/
def ldRegD8Table (d8 : Byte) : List (Instr × Reg8) :=
  [(.ld_B_d8 d8, .b), (.ld_C_d8 d8, .c), (.ld_D_d8 d8, .d), (.ld_E_d8 d8, .e), (.ld_H_d8 d8, .h), (.ld_L_d8 d8, .l), (.ld_A_d8 d8, .a)]

/-- The 7 `INC r` (R101): instruction, operand. -/
def incRegTable : List (Instr × Reg8) :=
  [(.inc_B, .b), (.inc_C, .c), (.inc_D, .d), (.inc_E, .e), (.inc_H, .h), (.inc_L, .l), (.inc_A, .a)]

/-- The 7 `DEC r` (R103): instruction, operand. -/
def decRegTable : List (Instr × Reg8) :=
  [(.dec_B, .b), (.dec_C, .c), (.dec_D, .d), (.dec_E, .e), (.dec_H, .h), (.dec_L, .l), (.dec_A, .a)]

/-- The 9 `ADD` forms: instruction, second operand. -/
def addTable (d8 : Byte) : List (Instr × Operand) :=
  [(.add_A_B, .reg .b), (.add_A_C, .reg .c), (.add_A_D, .reg .d), (.add_A_E, .reg .e), (.add_A_H, .reg .h), (.add_A_L, .reg .l), (.add_A_atHL, .atHL),
   (.add_A_A, .reg .a), (.add_A_d8 d8, .d8 d8)]

/-- The 9 `ADC` forms: instruction, second operand. -/
def adcTable (d8 : Byte) : List (Instr × Operand) :=
  [(.adc_A_B, .reg .b), (.adc_A_C, .reg .c), (.adc_A_D, .reg .d), (.adc_A_E, .reg .e), (.adc_A_H, .reg .h), (.adc_A_L, .reg .l), (.adc_A_atHL, .atHL),
   (.adc_A_A, .reg .a), (.adc_A_d8 d8, .d8 d8)]

/-- The 9 `SUB` forms: instruction, second operand. -/
def subTable (d8 : Byte) : List (Instr × Operand) :=
  [(.sub_A_B, .reg .b), (.sub_A_C, .reg .c), (.sub_A_D, .reg .d), (.sub_A_E, .reg .e), (.sub_A_H, .reg .h), (.sub_A_L, .reg .l), (.sub_A_atHL, .atHL),
   (.sub_A_A, .reg .a), (.sub_A_d8 d8, .d8 d8)]

/-- The 9 `SBC` forms: instruction, second operand. -/
def sbcTable (d8 : Byte) : List (Instr × Operand) :=
  [(.sbc_A_B, .reg .b), (.sbc_A_C, .reg .c), (.sbc_A_D, .reg .d), (.sbc_A_E, .reg .e), (.sbc_A_H, .reg .h), (.sbc_A_L, .reg .l), (.sbc_A_atHL, .atHL),
   (.sbc_A_A, .reg .a), (.sbc_A_d8 d8, .d8 d8)]

/-- The 9 `CP` forms: instruction, second operand. -/
def cpTable (d8 : Byte) : List (Instr × Operand) :=
  [(.cp_A_B, .reg .b), (.cp_A_C, .reg .c), (.cp_A_D, .reg .d), (.cp_A_E, .reg .e), (.cp_A_H, .reg .h), (.cp_A_L, .reg .l), (.cp_A_atHL, .atHL),
   (.cp_A_A, .reg .a), (.cp_A_d8 d8, .d8 d8)]

/-- The 9 `AND` forms: instruction, second operand. -/
def andTable (d8 : Byte) : List (Instr × Operand) :=
  [(.and_A_B, .reg .b), (.and_A_C, .reg .c), (.and_A_D, .reg .d), (.and_A_E, .reg .e), (.and_A_H, .reg .h), (.and_A_L, .reg .l), (.and_A_atHL, .atHL),
   (.and_A_A, .reg .a), (.and_A_d8 d8, .d8 d8)]

/-- The 9 `XOR` forms: instruction, second operand. -/
def xorTable (d8 : Byte) : List (Instr × Operand) :=
  [(.xor_A_B, .reg .b), (.xor_A_C, .reg .c), (.xor_A_D, .reg .d), (.xor_A_E, .reg .e), (.xor_A_H, .reg .h), (.xor_A_L, .reg .l), (.xor_A_atHL, .atHL),
   (.xor_A_A, .reg .a), (.xor_A_d8 d8, .d8 d8)]

/-- The 9 `OR` forms: instruction, second operand. -/
def orTable (d8 : Byte) : List (Instr × Operand) :=
  [(.or_A_B, .reg .b), (.or_A_C, .reg .c), (.or_A_D, .reg .d), (.or_A_E, .reg .e), (.or_A_H, .reg .h), (.or_A_L, .reg .l), (.or_A_atHL, .atHL),
   (.or_A_A, .reg .a), (.or_A_d8 d8, .d8 d8)]

/-- The 45 arithmetic instructions with their operations. -/
def arithTable (d8 : Byte) : List (AluOp × Instr × Operand) :=
  (addTable d8).map (Prod.mk .add) ++ (adcTable d8).map (Prod.mk .adc) ++
  (subTable d8).map (Prod.mk .sub) ++ (sbcTable d8).map (Prod.mk .sbc) ++
  (cpTable d8).map (Prod.mk .cp)

/-- The 27 logic instructions with their operations. -/
def logicTable (d8 : Byte) : List (AluOp × Instr × Operand) :=
  (andTable d8).map (Prod.mk .and) ++ (xorTable d8).map (Prod.mk .xor) ++
  (orTable d8).map (Prod.mk .or)

/-! ### Words of the statements -/

/-- The value of the second operand (R110): a register half, the byte at `HL`, or the immediate. -/
def secondOperand (s : State) : Operand → Byte
  | .reg r => s.reg r
  | .atHL => s.read8 (joinBytes s.h s.l)
  | .d8 v => v

/-- The length of an ALU form (R110). -/
def aluLen : Operand → Word
  | .reg _ => 1#16
  | .atHL => 1#16
  | .d8 _ => 2#16

/-- The cost of an ALU form (R110). -/
def aluCost : Operand → Word
  | .reg _ => 4#16
  | .atHL => 8#16
  | .d8 _ => 8#16

/-- The four named flags are `z n h c`. -/
def FlagsAre (t : State) (z n h c : Bool) : Prop :=
  t.flag .z = z ∧ t.flag .n = n ∧ t.flag .h = h ∧ t.flag .c = c

/-- A bit of `F` that is no named flag's (R17: "all other bits of the flags byte"); at the default positions
these are `F[3:0]` (`FlagPositions`). -/
def OtherBit (s : State) (k : Fin 8) : Prop := ∀ fl, k ≠ s.flagPos fl

/-- The bits of `F` that are no named flag's are as they were (R17). -/
def OtherBitsKept (s t : State) : Prop := ∀ k, OtherBit s k → getFlag t.f k = getFlag s.f k

/-- Nothing but `A`, `F`, `PC` and `cycle_count` differs: no other register, no latch, no byte of memory, no
parameter. -/
def OnlyAccumulatorAndFlags (s t : State) : Prop :=
  t = { s with a := t.a, f := t.f, pc := t.pc, cycleCount := t.cycleCount }

/-- `PC` and `cycle_count` advance by the length and the cost, modulo 65536. -/
def Advanced (s t : State) (len cost : Word) : Prop :=
  t.pc = s.pc + len ∧ t.cycleCount = s.cycleCount + cost

/-- The Carry flag before the step as a number (R126: `cin` in {0, 1}). -/
def carryIn (s : State) : Nat := (s.flag .c).toNat

/-- `v & 0x0F`. -/
def nibble (v : Byte) : Nat := (v &&& 0x0F#8).toNat

/-- The operand an instruction writes beside flags, `PC` and `cycle_count` (R86, R13); `CP` writes none. -/
def destination : Asm → Option Operand
  | .ld dst _ => some dst
  | .inc o => some o
  | .dec o => some o
  | .alu .cp _ => none
  | .alu _ _ => some (.reg .a)

/-- Whether an instruction is a load. -/
def isLoad : Asm → Bool
  | .ld _ _ => true
  | _ => false

/-- Whether an instruction writes the Carry flag (R19): every ALU form does. -/
def writesCarry : Asm → Bool
  | .alu _ _ => true
  | _ => false

/-- The cost of a form (R85) where `CYC_MEM2` is `mem2`: register forms 4, the three forms with two operand
accesses `mem2`, every other form 8. -/
def formCost (mem2 : Word) : Asm → Word
  | .ld (.reg _) (.reg _) => 4#16
  | .inc (.reg _) => 4#16
  | .dec (.reg _) => 4#16
  | .alu _ (.reg _) => 4#16
  | .ld .atHL (.d8 _) => mem2
  | .inc .atHL => mem2
  | .dec .atHL => mem2
  | _ => 8#16

/-- The operand code of a register (R63). -/
def regCode : Reg8 → BitVec 3
  | .b => 0b000#3
  | .c => 0b001#3
  | .d => 0b010#3
  | .e => 0b011#3
  | .h => 0b100#3
  | .l => 0b101#3
  | .a => 0b111#3

/-- The ALU operation code (R64). -/
def aluCode : AluOp → BitVec 3
  | .add => 0b000#3
  | .adc => 0b001#3
  | .sub => 0b010#3
  | .sbc => 0b011#3
  | .and => 0b100#3
  | .xor => 0b101#3
  | .or => 0b110#3
  | .cp => 0b111#3

/-- The opcode byte of an ALU form (R110): `10 ooo sss`, `10 ooo 110` or `11 ooo 110`. -/
def aluPattern (op : AluOp) : Operand → Byte
  | .reg r => 0b10#2 ++ aluCode op ++ regCode r
  | .atHL => 0b10#2 ++ aluCode op ++ 0b110#3
  | .d8 _ => 0b11#2 ++ aluCode op ++ 0b110#3

/-- The transactions of an ALU form after the fetch (R110). -/
def aluReads (s : State) : Operand → List Transaction
  | .reg _ => []
  | .atHL => [.read (joinBytes s.h s.l) (s.read8 (joinBytes s.h s.l))]
  | .d8 _ => [.read (s.pc + 1#16) (s.read8 (s.pc + 1#16))]

/-- The next step of `s` runs `i`: the core has not faulted and the bytes at `PC` decode to `i`. -/
def Runs (s : State) (i : Instr) : Prop :=
  s.fault = none ∧ ∃ rest, decode [s.read8 s.pc, s.read8 (s.pc + 1#16)] = .ok (i, rest)

/-- The transactions of `n` steps from a state, in order. -/
def traceOf : Nat → State → List Transaction
  | 0, _ => []
  | n + 1, s =>
    stepTransactions s ++
      match step s with
      | .next t => traceOf n t
      | .fault _ => []
      | .refused _ => []

/-- The byte of the last write to `a` in a list of transactions, or the value before it if there is none. -/
def lastWritten (a : Word) : Byte → List Transaction → Byte
  | v, [] => v
  | v, .read _ _ :: rest => lastWritten a v rest
  | v, .write x w :: rest => lastWritten a (if x = a then w else v) rest

end Sys2Proof.Slice0

open Sys2Proof Sys2Proof.Machine Sys2Proof.Slice0

/-! ### The step, the decoder and the exception -/

/-- R80, R81, R83: when the two bytes at `PC` decode to `i`, a step of a core that has not faulted latches the
opcode byte and runs `i`; what `exec` does around it (`PC`, `cycle_count`) is in the instruction
statements. -/
def Obligations.StepRunsDecodedInstruction : Prop :=
  ∀ (s : State) (i : Instr) (rest : List Byte), s.fault = none →
    decode [s.read8 s.pc, s.read8 (s.pc + 1#16)] = .ok (i, rest) →
      step s = exec i { s with opcode := s.read8 s.pc }

/-- R152 (decision D6): fetching one of the 97 values of R68 (decision D1) writes the `opcode` and `fault`
latches and changes nothing else, `PC` and `cycle_count` included. -/
def Obligations.UndefinedOpcodeEntersFaultState : Prop :=
  ∀ s : State, s.fault = none → s.read8 s.pc ∈ undefinedOpcodes →
    step s = .next { s with opcode := s.read8 s.pc, fault := some ⟨s.read8 s.pc, s.pc⟩ }

/-- R150: `UndefinedOpcode` is the one exception.  A step of a core that has not faulted ends faulted exactly
when the byte at `PC` is one of the 97 values; then the opcode byte and its address are recorded, the fetch
is the step's only transaction, `opcode` holds the byte, and nothing else is written: no memory byte, no
register half, not `F`, `PC`, `cycle_count` or `SP`. -/
def Obligations.UndefinedOpcodeIsTheOnlyException : Prop :=
  ∀ s : State, s.fault = none → ∃ t, step s = .next t ∧
    (t.fault ≠ none ↔ s.read8 s.pc ∈ undefinedOpcodes) ∧
    (s.read8 s.pc ∈ undefinedOpcodes →
      t.fault = some ⟨s.read8 s.pc, s.pc⟩ ∧
      stepTransactions s = [.read s.pc (s.read8 s.pc)] ∧
      t.mem = s.mem ∧ t.f = s.f ∧ (∀ r, t.reg r = s.reg r) ∧
      t.pc = s.pc ∧ t.cycleCount = s.cycleCount ∧ t.sp = s.sp ∧ t.opcode = s.read8 s.pc ∧
      t.params = s.params)

/-- R153 (decision D6): however many steps the host asks for, a faulted core stays exactly as it is, and
issues no transaction. -/
def Obligations.FaultedCoreNeverMoves : Prop :=
  ∀ (s t : State) (u : UndefinedOpcode), s.fault = some u → Follows s t →
    t = s ∧ stepTransactions t = []

/-- R80, R40: the step function is total.  Every number of steps from every state ends in a state; no run is
cut short. -/
def Obligations.EveryRunGoesOn : Prop :=
  ∀ (n : Nat) (s : State), ∃ t, Host.Core.run Sys2Proof.core n s = .next t

/-- R60, R61, R67: decoding the bytes of an instruction gives it back, with every `d8`, and leaves the bytes
after it. -/
def Obligations.DecodeInvertsEncode : Prop :=
  ∀ i : Instr, i.wf = true → ∀ rest : List Byte, decode (encode i ++ rest) = .ok (i, rest)

/-- R67: each opcode value has one meaning.  Whatever bytes decode to an instruction begin with that
instruction's own bytes. -/
def Obligations.EncodeInvertsDecode : Prop :=
  ∀ (bytes rest : List Byte) (i : Instr), decode bytes = .ok (i, rest) → bytes = encode i ++ rest

/-- R68, R70: of the 256 opcode values exactly the 97 listed ones are refused, by name, and every other one is
an instruction whatever byte follows it. -/
def Obligations.ExactlyTheDefinedOpcodesDecode : Prop :=
  ∀ (op d8 : Byte) (rest : List Byte),
    (op ∈ undefinedOpcodes → decode (op :: d8 :: rest) = .error (.undefinedOpcode op)) ∧
    (op ∉ undefinedOpcodes → ∃ i rest', decode (op :: d8 :: rest) = .ok (i, rest'))

/-- R69, R60: an instruction is two bytes when its opcode byte has `x` 0 or 3 and `z` 6, and one byte
otherwise. -/
def Obligations.LengthFollowsOpcodeFields : Prop :=
  ∀ (i : Instr) (op : Byte), (encode i).head? = some op →
    (encode i).length =
      if (op.extractLsb' 6 2 = 0#2 ∨ op.extractLsb' 6 2 = 3#2) ∧ op.extractLsb' 0 3 = 6#3 then 2 else 1

/-- A few words written out from the encodings of R91 to R139 decode to what they stand for; `0xA6` is the
source's own. -/
def Obligations.SpecWordsDecode : Prop :=
  decode [0b10_100_110#8] = .ok (.and_A_atHL, []) ∧
  decode [0b01_000_001#8] = .ok (.ld_B_C, []) ∧
  decode [0b00_110_110#8, 0xAB#8] = .ok (.ld_atHL_d8 0xAB#8, []) ∧
  decode [0b00_101_101#8] = .ok (.dec_L, []) ∧
  decode [0b11_011_110#8, 0x2A#8] = .ok (.sbc_A_d8 0x2A#8, []) ∧
  decode [0b10_111_111#8] = .ok (.cp_A_A, []) ∧
  decode [0b01_110_110#8] = .error (.undefinedOpcode 0x76#8)

/-- R72, R68: the assembly terms that name an instruction are exactly the well-formed ones, each names the
instruction whose term it is, and an ill-formed term names none. -/
def Obligations.AssemblyNamesInstructions : Prop :=
  (∀ i : Instr, Instr.ofAsm i.asm = some i) ∧
  (∀ a : Asm, a.wf = true ↔ ∃ i, Instr.ofAsm a = some i ∧ i.asm = a) ∧
  (∀ a : Asm, a.wf = false → Instr.ofAsm a = none)

/-! ### Reset and the invariant -/

/-- The state after reset at the spec's default parameters (R30 to R33).  The source states no reset value: the
zeros are the spec's decisions D9 and D10, in the model assumptions 1, 2 and 3; the flag positions are D3,
assumption 4, and `CYC_MEM2` is D12, assumption 5. -/
def Obligations.ResetAtDefaults : Prop :=
  resetWith ResetParams.standard = some State.reset ∧
  (∀ r, State.reset.reg r = 0x00#8) ∧ State.reset.f = 0x00#8 ∧ State.reset.pc = 0x0000#16 ∧
  State.reset.sp = 0x0000#16 ∧ State.reset.cycleCount = 0x0000#16 ∧ State.reset.opcode = 0x00#8 ∧
  State.reset.fault = none ∧ (∀ a, State.reset.read8 a = 0x00#8) ∧
  State.reset.flagPos .z = 7 ∧ State.reset.flagPos .n = 6 ∧ State.reset.flagPos .h = 5 ∧
  State.reset.flagPos .c = 4 ∧ State.reset.params.cycMem2 = 8#16

/-- R3, R170 to R173 (decisions D3, D9, D10, D12): reset with any well-sized parameters puts them in the
registers, clears `cycle_count`, `opcode` and `fault`, lays out memory as overlay, cartridge and fill, and
gives the core its flag positions and `CYC_MEM2`; images of the wrong size are refused. -/
def Obligations.ResetFollowsItsParameters : Prop :=
  ∀ p : ResetParams,
    (p.bootImage.length = 256 ∧ p.cartImage.length ≤ 32768 →
      ∃ s, resetWith p = some s ∧
        s.pair .af = p.resetAf ∧ s.pair .bc = p.resetBc ∧ s.pair .de = p.resetDe ∧
        s.pair .hl = p.resetHl ∧ s.sp = p.resetSp ∧ s.pc = p.resetPc ∧
        s.cycleCount = 0x0000#16 ∧ s.opcode = 0x00#8 ∧ s.fault = none ∧
        s.params = ⟨p.flagPos, p.cycMem2⟩ ∧
        ∀ a : Word,
          (a.toNat ≤ 0x00FF → p.bootImage[a.toNat]? = some (s.read8 a)) ∧
          (0x0100 ≤ a.toNat → a.toNat ≤ 0x7FFF → a.toNat < p.cartImage.length →
            p.cartImage[a.toNat]? = some (s.read8 a)) ∧
          (0x0100 ≤ a.toNat → (0x7FFF < a.toNat ∨ p.cartImage.length ≤ a.toNat) →
            s.read8 a = p.initFill)) ∧
    (¬ (p.bootImage.length = 256 ∧ p.cartImage.length ≤ 32768) → resetWith p = none)

/-- R3: the parameters are constants of a core.  No step changes the flag positions or `CYC_MEM2`, and every state
of a run from reset has those reset was given. -/
def Obligations.ParametersNeverChange : Prop :=
  (∀ s t : State, step s = .next t → t.params = s.params) ∧
  (∀ (p : ResetParams) (s : State), Reachable p s →
    s.params.cycMem2 = p.cycMem2 ∧ ∀ fl, s.flagPos fl = fl.pos p.flagPos)

/-- The invariant holds after every reset: memory is in its canonical form and the fault latch is precise. -/
def Obligations.ResetMeetsInvariant : Prop :=
  State.reset.Inv ∧ ∀ (p : ResetParams) (s : State), resetWith p = some s → s.Inv

/-- Every step keeps the invariant: memory stays in its canonical form, and in the fault state
`fault.pc = pc` and `fault.opcode = opcode = mem[pc]` is an undefined opcode (R152). -/
def Obligations.StepKeepsInvariant : Prop :=
  ∀ s t : State, s.Inv → step s = .next t → t.Inv

/-! ### Memory, registers and flags -/

/-- R45, R43: a store sets its cell, at every address, and changes no other cell and no register.  (The premise is
the model's own form of a memory, assumption 10; every reset meets it and every step keeps it.) -/
def Obligations.StoreThenReadEveryAddress : Prop :=
  ∀ (s : State) (a x : Word) (v : Byte), Memory.wf s.mem = true →
    (s.write8 a v).read8 x = (if x = a then v else s.read8 x) ∧
    s.write8 a v = { s with mem := (s.write8 a v).mem }

/-- The model's memory list, a design choice (assumption 10), is a faithful array (R24, R40): two canonical lists
that hold the same 65536 bytes are the same list, and a store keeps a list canonical. -/
def Obligations.CanonicalMemoriesAreArrays : Prop :=
  (∀ m m' : Memory, Memory.wf m = true → Memory.wf m' = true →
    (∀ a : Word, Memory.read m a.toNat = Memory.read m' a.toNat) → m = m') ∧
  (∀ (s : State) (a : Word) (v : Byte), Memory.wf s.mem = true → Memory.wf (s.write8 a v).mem = true)

/-- R46 to R49 (decision D16 for the wrap and the order): word accesses are little-endian pairs of byte
accesses at `addr` and `addr + 1` modulo 65536, at odd addresses and at `0xFFFF` too. -/
def Obligations.WordAccessesAreLittleEndian : Prop :=
  ∀ (s : State) (a v x : Word), Memory.wf s.mem = true →
    (s.readWord a).extractLsb' 0 8 = s.read8 a ∧
    (s.readWord a).extractLsb' 8 8 = s.read8 (a + 1#16) ∧
    (s.writeWord a v).readWord a = v ∧
    (s.writeWord a v).read8 a = v.extractLsb' 0 8 ∧
    (s.writeWord a v).read8 (a + 1#16) = v.extractLsb' 8 8 ∧
    (x ≠ a → x ≠ a + 1#16 → (s.writeWord a v).read8 x = s.read8 x)

/-- R11: a pair is its two halves; a write to one half leaves the other; a 16-bit write is a write of both;
no other pair, and nothing outside the pairs, changes. -/
def Obligations.PairsAndHalvesShareStorage : Prop :=
  ∀ (s : State) (p q : Pair) (v : Byte) (w : Word),
    (s.pair p).extractLsb' 8 8 = s.pairHigh p ∧ (s.pair p).extractLsb' 0 8 = s.pairLow p ∧
    ((s.setPairHigh p v).pairHigh p = v ∧ (s.setPairHigh p v).pairLow p = s.pairLow p) ∧
    ((s.setPairLow p v).pairLow p = v ∧ (s.setPairLow p v).pairHigh p = s.pairHigh p) ∧
    ((s.setPair p w).pair p = w ∧ (s.setPair p w).pairHigh p = w.extractLsb' 8 8 ∧
      (s.setPair p w).pairLow p = w.extractLsb' 0 8) ∧
    (q ≠ p → (s.setPairHigh p v).pair q = s.pair q ∧ (s.setPairLow p v).pair q = s.pair q ∧
      (s.setPair p w).pair q = s.pair q) ∧
    ∀ t ∈ [s.setPairHigh p v, s.setPairLow p v, s.setPair p w],
      t.pc = s.pc ∧ t.sp = s.sp ∧ t.cycleCount = s.cycleCount ∧ t.opcode = s.opcode ∧
      t.mem = s.mem ∧ t.fault = s.fault ∧ t.params = s.params

/-- R12, R10, R63 (decision D4, model assumption 18): the registers the handlers name are the halves of the pairs,
first letter high.  A write to a register is a write to its half, so it changes no other half and the pair
as that half says; `HL`, the address of the `(HL)` forms, is the pair of `H` and `L`. -/
def Obligations.RegistersAreHalvesOfPairs : Prop :=
  ∀ (s : State) (v : Byte),
    (s.reg .b = s.pairHigh .bc ∧ s.reg .c = s.pairLow .bc ∧ s.reg .d = s.pairHigh .de ∧
      s.reg .e = s.pairLow .de ∧ s.reg .h = s.pairHigh .hl ∧ s.reg .l = s.pairLow .hl ∧
      s.reg .a = s.pairHigh .af ∧ s.f = s.pairLow .af) ∧
    (s.setReg .b v = s.setPairHigh .bc v ∧ s.setReg .c v = s.setPairLow .bc v ∧
      s.setReg .d v = s.setPairHigh .de v ∧ s.setReg .e v = s.setPairLow .de v ∧
      s.setReg .h v = s.setPairHigh .hl v ∧ s.setReg .l v = s.setPairLow .hl v ∧
      s.setReg .a v = s.setPairHigh .af v) ∧
    (∀ r q, (s.setReg r v).reg q = (if q = r then v else s.reg q) ∧ (s.setReg r v).f = s.f) ∧
    s.hl = s.pair .hl ∧ s.hl = joinBytes (s.reg .h) (s.reg .l) ∧
    s.hl.extractLsb' 8 8 = s.reg .h ∧ s.hl.extractLsb' 0 8 = s.reg .l

/-- R18: `get_flag` reads one bit; `set_flag` ORs its value into one bit, so that with 0 it changes nothing;
`clear_flag` clears one bit; an assignment is a clear and then a set, and gives the flag its value whatever
it was, leaving the other seven bits. -/
def Obligations.FlagPrimitivesTouchOneBit : Prop :=
  ∀ (p : Sys2Proof.Machine.FlagPositions) (f : Byte) (v : Bool) (fl : Flag) (bit k : Fin 8),
    getFlag f bit = f.getLsbD bit.val ∧
    getFlag (setFlag f v bit) k = (getFlag f k || (v && decide (k = bit))) ∧
    setFlag f false bit = f ∧
    getFlag (clearFlag f bit) k = (getFlag f k && decide (k ≠ bit)) ∧
    assignFlag p f fl v = setFlag (clearFlag f (fl.pos p)) v (fl.pos p) ∧
    getFlag (assignFlag p f fl v) k = (if k = fl.pos p then v else getFlag f k)

/-- R16: a flag is one fixed bit of `F`, the low half of `AF`, and no two flags are the same bit.  At the default
positions (decision D3, model assumption 4) Z, N, H and C are bits 7, 6, 5 and 4, and the other bits are
`F[3:0]`. -/
def Obligations.FlagPositions : Prop :=
  (∀ (s : State) (fl fl' : Flag), s.flag fl = s.f.getLsbD (s.flagPos fl).val ∧
    s.flag fl = (s.pair .af).getLsbD (s.flagPos fl).val ∧ (s.flagPos fl = s.flagPos fl' → fl = fl')) ∧
  (∀ s : State, s.params.flagPos = Sys2Proof.Machine.FlagPositions.standard →
    s.flag .z = s.f.getLsbD 7 ∧ s.flag .n = s.f.getLsbD 6 ∧ s.flag .h = s.f.getLsbD 5 ∧
    s.flag .c = s.f.getLsbD 4 ∧ ∀ k, OtherBit s k ↔ k.val < 4)

/-! ### What no instruction does -/

/-- R20: no instruction reads or writes `SP`; it holds its reset value for ever, and no value of it has an
effect. -/
def Obligations.StackPointerIsInert : Prop :=
  (∀ s t : State, step s = .next t → t.sp = s.sp) ∧
  (∀ (s t : State) (v : Word), step s = .next t →
    step { s with sp := v } = .next { t with sp := v }) ∧
  (∀ (p : ResetParams) (s : State), Reachable p s → s.sp = p.resetSp)

/-- R17 (decision D23): no instruction reads or writes the bits of `F` that are no named flag's (`F[3:0]` at the
default positions); they hold their reset value for ever, and flipping any of them before a step flips the
same ones after it and nothing else. -/
def Obligations.LowFlagBitsAreInert : Prop :=
  (∀ s t : State, step s = .next t → OtherBitsKept s t) ∧
  (∀ (s t : State) (m : Byte), (∀ fl, getFlag m (s.flagPos fl) = false) → step s = .next t →
    step { s with f := s.f ^^^ m } = .next { t with f := t.f ^^^ m }) ∧
  (∀ (p : ResetParams) (s : State), Reachable p s →
    ∀ k, OtherBit s k → getFlag s.f k = p.resetAf.getLsbD k.val)

/-- R26, R19: Carry is the only flag an instruction reads.  Two states that differ only in `F` and agree on
Carry step to states that differ only in `F`; and each flag is then the same in both, or was written by
neither step and is what it was in each; the bits that are no flag's are what they were in each. -/
def Obligations.OnlyCarryIsRead : Prop :=
  ∀ (s t : State) (g : Byte), getFlag g (s.flagPos .c) = s.flag .c → step s = .next t →
    ∃ u, step { s with f := g } = .next u ∧ u = { t with f := u.f } ∧
      (∀ fl, u.flag fl = t.flag fl ∨
        (u.flag fl = getFlag g (s.flagPos fl) ∧ t.flag fl = s.flag fl)) ∧
      (∀ k, OtherBit s k → getFlag u.f k = getFlag g k ∧ getFlag t.f k = getFlag s.f k)

/-- R161, R85: `cycle_count` is 0 after reset, gains 4, 8 or `CYC_MEM2` (8 at its default, decision D12) modulo
65536 in every step that executes an instruction and nothing otherwise, and no instruction reads it: stepping
from another count gives the same state with the count shifted. -/
def Obligations.CycleCounterLaw : Prop :=
  (∀ (p : ResetParams) (s : State), resetWith p = some s → s.cycleCount = 0x0000#16) ∧
  (∀ s t : State, step s = .next t →
    (t.fault = none → t.cycleCount = s.cycleCount + 4#16 ∨ t.cycleCount = s.cycleCount + 8#16 ∨
      t.cycleCount = s.cycleCount + s.params.cycMem2) ∧
    (t.fault = none → s.params.cycMem2 = 8#16 →
      t.cycleCount = s.cycleCount + 4#16 ∨ t.cycleCount = s.cycleCount + 8#16) ∧
    (t.fault ≠ none → t.cycleCount = s.cycleCount)) ∧
  (∀ (s t : State) (k : Word), step s = .next t →
    step { s with cycleCount := s.cycleCount + k } = .next { t with cycleCount := t.cycleCount + k })

/-! ### The bus -/

/-- R58: a step changes memory by its own write transactions and by nothing else. -/
def Obligations.OnlyWriteTransactionsChangeMemory : Prop :=
  ∀ s t : State, step s = .next t → t.mem = (stepTransactions s).foldl Transaction.apply s.mem

/-- R51 (decision D15), the order: in a step the opcode fetch comes first, then the operand reads, then at most one
write; reads return what memory held at the start of the step; the write goes to `HL` as it was then.  Which
reads and writes each form makes is `TransactionTable`. -/
def Obligations.TransactionOrder : Prop :=
  ∀ s : State, s.fault = none → ∃ reads writes : List Transaction,
    stepTransactions s = .read s.pc (s.read8 s.pc) :: (reads ++ writes) ∧
    (∀ x ∈ reads, ∃ a, x = .read a (s.read8 a) ∧ (a = s.pc + 1#16 ∨ a = joinBytes s.h s.l)) ∧
    reads.length ≤ 1 ∧
    (∀ x ∈ writes, ∃ v, x = .write (joinBytes s.h s.l) v) ∧
    writes.length ≤ 1

/-- R51's table (decision D15), row by row: what a step that runs an instruction issues, exactly.  `HL`, and every
byte read, is as it was at the start of the step; the immediate is the byte at `PC + 1`. -/
def Obligations.TransactionTable : Prop :=
  ∀ s : State,
    let fetch := Transaction.read s.pc (s.read8 s.pc)
    let d8 := s.read8 (s.pc + 1#16)
    let immediate := Transaction.read (s.pc + 1#16) d8
    let hl := joinBytes s.h s.l
    let v := s.read8 hl
    (∀ x ∈ ldRegRegTable, Runs s x.1 → stepTransactions s = [fetch]) ∧
    (∀ x ∈ incRegTable ++ decRegTable, Runs s x.1 → stepTransactions s = [fetch]) ∧
    (∀ x ∈ ldRegAtHLTable, Runs s x.1 → stepTransactions s = [fetch, .read hl v]) ∧
    (∀ x ∈ ldAtHLRegTable, Runs s x.1 → stepTransactions s = [fetch, .write hl (s.reg x.2)]) ∧
    (∀ w, ∀ x ∈ ldRegD8Table w, Runs s x.1 → w = d8 ∧ stepTransactions s = [fetch, immediate]) ∧
    (∀ w, Runs s (.ld_atHL_d8 w) → w = d8 ∧ stepTransactions s = [fetch, immediate, .write hl d8]) ∧
    (Runs s .inc_atHL → stepTransactions s = [fetch, .read hl v, .write hl (v + 1#8)]) ∧
    (Runs s .dec_atHL → stepTransactions s = [fetch, .read hl v, .write hl (v - 1#8)]) ∧
    (∀ w, ∀ x ∈ arithTable w ++ logicTable w, Runs s x.2.1 →
      stepTransactions s = fetch :: aluReads s x.2.2) ∧
    (s.fault = none → s.read8 s.pc ∈ undefinedOpcodes → stepTransactions s = [fetch])

/-- R52: over any number of steps, every read, fetches and immediates included, returns the value of the most
recent write to its address in program order, or what memory held at the start if there was none; and that
is what memory holds at the end. -/
def Obligations.ReadsReturnTheLastWrite : Prop :=
  ∀ (n : Nat) (s t : State), Memory.wf s.mem = true → Host.Core.run Sys2Proof.core n s = .next t →
    (∀ a : Word, t.read8 a = lastWritten a (s.read8 a) (traceOf n s)) ∧
    (∀ (before later : List Transaction) (a : Word) (v : Byte),
      traceOf n s = before ++ .read a v :: later → v = lastWritten a (s.read8 a) before)

/-- R54: a store into the next instruction's opcode is what the next step fetches.  `LD (HL),r` with
`HL = PC + 1` completes, and the following step latches the byte it stored. -/
def Obligations.StoreIntoInstructionStream : Prop :=
  ∀ x ∈ ldAtHLRegTable, ∀ s : State, Memory.wf s.mem = true → s.fault = none →
    encode x.1 = [s.read8 s.pc] → joinBytes s.h s.l = s.pc + 1#16 →
      ∃ t u, step s = .next t ∧ t.fault = none ∧ t.pc = s.pc + 1#16 ∧ step t = .next u ∧
        u.opcode = s.reg x.2

/-! ### Every instruction -/

/-- R84, R85, R87: every handler completes, moves `PC` by the instruction's encoded length and `cycle_count` by its
form's cost, each modulo 65536; the cost of the three forms with two operand accesses is the core's
`CYC_MEM2`, whatever it is. -/
def Obligations.PcAndCyclesPerForm : Prop :=
  ∀ (i : Instr) (s : State), ∃ t, exec i s = .next t ∧
    t.pc = s.pc + BitVec.ofNat 16 (encode i).length ∧
    t.cycleCount = s.cycleCount + formCost s.params.cycMem2 i.asm

/-- R86, R19: an instruction changes no register half and no memory byte but its one destination; the store of
a form that writes memory goes to `HL` as it was before; a load changes no flag, `INC` and `DEC` keep Carry;
the other bits of `F`, `SP`, the `opcode` and `fault` latches and the parameters never change in a handler. -/
def Obligations.OneDestinationPerInstruction : Prop :=
  ∀ (i : Instr) (s : State), ∃ t, exec i s = .next t ∧
    (∀ r, destination i.asm ≠ some (.reg r) → t.reg r = s.reg r) ∧
    (destination i.asm ≠ some .atHL → t.mem = s.mem) ∧
    (∀ a, a ≠ joinBytes s.h s.l → t.read8 a = s.read8 a) ∧
    (isLoad i.asm = true → t.f = s.f) ∧
    (writesCarry i.asm = false → t.flag .c = s.flag .c) ∧
    OtherBitsKept s t ∧ t.sp = s.sp ∧ t.opcode = s.opcode ∧ t.fault = s.fault ∧ t.params = s.params

/-! ### Loads (R90 to R95; that a load copies and writes no flag is decision D14) -/

/-- R91: the 49 `LD r,r'` copy one half to another; nothing else changes but `PC` and `cycle_count`. -/
def Obligations.LoadRegisterFromRegister : Prop :=
  ∀ x ∈ ldRegRegTable, ∀ s : State, ∃ t, exec x.1 s = .next t ∧
    t.reg x.2.1 = s.reg x.2.2 ∧ (∀ r, r ≠ x.2.1 → t.reg r = s.reg r) ∧
    t.f = s.f ∧ t.sp = s.sp ∧ t.opcode = s.opcode ∧ t.fault = s.fault ∧ t.mem = s.mem ∧
    t.params = s.params ∧ Advanced s t 1#16 4#16

/-- R92: the 7 `LD r,(HL)` copy the byte at `HL`, `HL` being its value before the step also when `r` is `H` or
`L`; nothing else changes but `PC` and `cycle_count`. -/
def Obligations.LoadRegisterFromMemory : Prop :=
  ∀ x ∈ ldRegAtHLTable, ∀ s : State, ∃ t, exec x.1 s = .next t ∧
    t.reg x.2 = s.read8 (joinBytes s.h s.l) ∧ (∀ r, r ≠ x.2 → t.reg r = s.reg r) ∧
    t.f = s.f ∧ t.sp = s.sp ∧ t.opcode = s.opcode ∧ t.fault = s.fault ∧ t.mem = s.mem ∧
    t.params = s.params ∧ Advanced s t 1#16 8#16

/-- R93, R43: the 7 `LD (HL),r` store the half at `HL`, at every address; every other byte, every register and
every flag keeps its value.  (That the stored byte is read back needs memory in its canonical form, which
every step keeps.) -/
def Obligations.StoreRegister : Prop :=
  ∀ x ∈ ldAtHLRegTable, ∀ s : State, ∃ t, exec x.1 s = .next t ∧
    (Memory.wf s.mem = true → t.read8 (joinBytes s.h s.l) = s.reg x.2) ∧
    (∀ a, a ≠ joinBytes s.h s.l → t.read8 a = s.read8 a) ∧
    t = { s with mem := t.mem, pc := t.pc, cycleCount := t.cycleCount } ∧
    Advanced s t 1#16 8#16

/-- R94: the 7 `LD r,d8` load any immediate byte; nothing else changes but `PC` and `cycle_count`. -/
def Obligations.LoadRegisterImmediate : Prop :=
  ∀ d8 : Byte, ∀ x ∈ ldRegD8Table d8, ∀ s : State, ∃ t, exec x.1 s = .next t ∧
    t.reg x.2 = d8 ∧ (∀ r, r ≠ x.2 → t.reg r = s.reg r) ∧
    t.f = s.f ∧ t.sp = s.sp ∧ t.opcode = s.opcode ∧ t.fault = s.fault ∧ t.mem = s.mem ∧
    t.params = s.params ∧ Advanced s t 2#16 8#16

/-- R95, R43 (cost `CYC_MEM2`, any value): `LD (HL),d8` stores the immediate at `HL`; every other byte, every
register and every flag keeps its value. -/
def Obligations.StoreImmediate : Prop :=
  ∀ (d8 : Byte) (s : State), ∃ t, exec (.ld_atHL_d8 d8) s = .next t ∧
    (Memory.wf s.mem = true → t.read8 (joinBytes s.h s.l) = d8) ∧
    (∀ a, a ≠ joinBytes s.h s.l → t.read8 a = s.read8 a) ∧
    t = { s with mem := t.mem, pc := t.pc, cycleCount := t.cycleCount } ∧
    Advanced s t 2#16 s.params.cycMem2

/-! ### Increment and decrement (R100 to R104; their flags are decision D13) -/

/-- R101: the 7 `INC r` add 1 modulo 256; Z, N, H from the operand before the wrap; Carry and the other
bits of `F` keep their values; the other halves, the other half of the same pair too, keep theirs. -/
def Obligations.IncrementRegister : Prop :=
  ∀ x ∈ incRegTable, ∀ s : State, let v := s.reg x.2
    ∃ t, exec x.1 s = .next t ∧ t.reg x.2 = v + 1#8 ∧ (∀ r, r ≠ x.2 → t.reg r = s.reg r) ∧
    FlagsAre t (decide (v = 0xFF#8)) false (decide (nibble v + 1 > 0x0F)) (s.flag .c) ∧
    OtherBitsKept s t ∧ t.sp = s.sp ∧ t.opcode = s.opcode ∧ t.fault = s.fault ∧ t.mem = s.mem ∧
    t.params = s.params ∧ Advanced s t 1#16 4#16

/-- R102 (cost `CYC_MEM2`, any value): `INC (HL)` adds 1 modulo 256 to the byte at `HL`; flags as `INC r`;
every register half and every other byte keeps its value. -/
def Obligations.IncrementMemory : Prop :=
  ∀ s : State, let v := s.read8 (joinBytes s.h s.l)
    ∃ t, exec .inc_atHL s = .next t ∧
    (Memory.wf s.mem = true → t.read8 (joinBytes s.h s.l) = v + 1#8) ∧
    (∀ a, a ≠ joinBytes s.h s.l → t.read8 a = s.read8 a) ∧
    FlagsAre t (decide (v = 0xFF#8)) false (decide (nibble v + 1 > 0x0F)) (s.flag .c) ∧
    OtherBitsKept s t ∧
    t = { s with mem := t.mem, f := t.f, pc := t.pc, cycleCount := t.cycleCount } ∧
    Advanced s t 1#16 s.params.cycMem2

/-- R103: the 7 `DEC r` subtract 1 modulo 256; Z, N, H from the operand before the wrap; Carry and the other
bits of `F` keep their values; the other halves keep theirs. -/
def Obligations.DecrementRegister : Prop :=
  ∀ x ∈ decRegTable, ∀ s : State, let v := s.reg x.2
    ∃ t, exec x.1 s = .next t ∧ t.reg x.2 = v - 1#8 ∧ (∀ r, r ≠ x.2 → t.reg r = s.reg r) ∧
    FlagsAre t (decide (v = 0x01#8)) true (decide (nibble v < 1)) (s.flag .c) ∧
    OtherBitsKept s t ∧ t.sp = s.sp ∧ t.opcode = s.opcode ∧ t.fault = s.fault ∧ t.mem = s.mem ∧
    t.params = s.params ∧ Advanced s t 1#16 4#16

/-- R104 (cost `CYC_MEM2`, any value): `DEC (HL)` subtracts 1 modulo 256 from the byte at `HL`; flags as
`DEC r`; every register half and every other byte keeps its value. -/
def Obligations.DecrementMemory : Prop :=
  ∀ s : State, let v := s.read8 (joinBytes s.h s.l)
    ∃ t, exec .dec_atHL s = .next t ∧
    (Memory.wf s.mem = true → t.read8 (joinBytes s.h s.l) = v - 1#8) ∧
    (∀ a, a ≠ joinBytes s.h s.l → t.read8 a = s.read8 a) ∧
    FlagsAre t (decide (v = 0x01#8)) true (decide (nibble v < 1)) (s.flag .c) ∧
    OtherBitsKept s t ∧
    t = { s with mem := t.mem, f := t.f, pc := t.pc, cycleCount := t.cycleCount } ∧
    Advanced s t 1#16 s.params.cycMem2

/-! ### ALU (R110 to R140) -/

/-- R111 to R113: `A + b` modulo 256, the incoming flags ignored; Carry out of bits 3 and 7 from the exact
sums. -/
def Obligations.AddResult : Prop :=
  ∀ d8 : Byte, ∀ x ∈ addTable d8, ∀ s : State, let a := s.a; let b := secondOperand s x.2
    ∃ t, exec x.1 s = .next t ∧ t.a = a + b ∧
    FlagsAre t (decide (a + b = 0#8)) false (decide (nibble a + nibble b > 0x0F))
      (decide (a.toNat + b.toNat > 0xFF)) ∧
    OtherBitsKept s t ∧ OnlyAccumulatorAndFlags s t ∧ Advanced s t (aluLen x.2) (aluCost x.2)

/-- R114 to R116: `A + b + Carry` modulo 256, Carry as it was before the step, counted in both carries. -/
def Obligations.AdcResult : Prop :=
  ∀ d8 : Byte, ∀ x ∈ adcTable d8, ∀ s : State,
    let a := s.a; let b := secondOperand s x.2; let cin := carryIn s
    ∃ t, exec x.1 s = .next t ∧ t.a = a + b + BitVec.ofNat 8 cin ∧
    FlagsAre t (decide (a + b + BitVec.ofNat 8 cin = 0#8)) false
      (decide (nibble a + nibble b + cin > 0x0F)) (decide (a.toNat + b.toNat + cin > 0xFF)) ∧
    OtherBitsKept s t ∧ OnlyAccumulatorAndFlags s t ∧ Advanced s t (aluLen x.2) (aluCost x.2)

/-- R117 to R119: `A - b` modulo 256, the incoming flags ignored; the borrows compare the exact values. -/
def Obligations.SubResult : Prop :=
  ∀ d8 : Byte, ∀ x ∈ subTable d8, ∀ s : State, let a := s.a; let b := secondOperand s x.2
    ∃ t, exec x.1 s = .next t ∧ t.a = a - b ∧
    FlagsAre t (decide (a = b)) true (decide (nibble a < nibble b)) (decide (b.toNat > a.toNat)) ∧
    OtherBitsKept s t ∧ OnlyAccumulatorAndFlags s t ∧ Advanced s t (aluLen x.2) (aluCost x.2)

/-- R120 to R122: `A - b - Carry` modulo 256, Carry as it was before the step, counted in both borrows;
`b + Carry` is exact and can be 256. -/
def Obligations.SbcResult : Prop :=
  ∀ d8 : Byte, ∀ x ∈ sbcTable d8, ∀ s : State,
    let a := s.a; let b := secondOperand s x.2; let cin := carryIn s
    ∃ t, exec x.1 s = .next t ∧ t.a = a - b - BitVec.ofNat 8 cin ∧
    FlagsAre t (decide (a - b - BitVec.ofNat 8 cin = 0#8)) true
      (decide (nibble a < nibble b + cin)) (decide (b.toNat + cin > a.toNat)) ∧
    OtherBitsKept s t ∧ OnlyAccumulatorAndFlags s t ∧ Advanced s t (aluLen x.2) (aluCost x.2)

/-- R123 to R125: `CP` keeps `A` and writes the flags of `SUB`. -/
def Obligations.CompareResult : Prop :=
  ∀ d8 : Byte, ∀ x ∈ cpTable d8, ∀ s : State, let a := s.a; let b := secondOperand s x.2
    ∃ t, exec x.1 s = .next t ∧ t.a = a ∧
    FlagsAre t (decide (a = b)) true (decide (nibble a < nibble b)) (decide (b.toNat > a.toNat)) ∧
    OtherBitsKept s t ∧ OnlyAccumulatorAndFlags s t ∧ Advanced s t (aluLen x.2) (aluCost x.2)

/-- R126: the definitions of the arithmetic results and carries, their use by the 45 instructions (`ADD`, `SUB`
and `CP` with `cin = 0`), and their equivalent forms: both half-carries are bit 4 of `a ^ b ^ res`, `add_C` is
bit 8 of the exact sum, `sub_C` says that the exact difference is negative; the results are the wrapped ones for
operands read as two's complement too; with `b = 0xFF` and `cin = 1` there is a borrow from every `a`. -/
def Obligations.ArithmeticLaws : Prop :=
  (∀ (a b : Byte) (cin : Bool),
    (addRes a b cin).toNat = (a.toNat + b.toNat + cin.toNat) % 256 ∧
    ((subRes a b cin).toNat : Int) = ((a.toNat : Int) - b.toNat - cin.toNat) % 256 ∧
    addH a b cin = decide (nibble a + nibble b + cin.toNat > 0x0F) ∧
    addC a b cin = decide (a.toNat + b.toNat + cin.toNat > 0xFF) ∧
    subH a b cin = decide (nibble a < nibble b + cin.toNat) ∧
    subC a b cin = decide (b.toNat + cin.toNat > a.toNat) ∧
    addH a b cin = (a ^^^ b ^^^ addRes a b cin).getLsbD 4 ∧
    subH a b cin = (a ^^^ b ^^^ subRes a b cin).getLsbD 4 ∧
    addC a b cin = (a.toNat + b.toNat + cin.toNat).testBit 8 ∧
    subC a b cin = decide ((a.toNat : Int) - b.toNat - cin.toNat < 0) ∧
    (addRes a b cin).toInt = (a.toInt + b.toInt + cin.toNat).bmod 256 ∧
    (subRes a b cin).toInt = (a.toInt - b.toInt - cin.toNat).bmod 256 ∧
    subC a 0xFF#8 true = true) ∧
  (∀ d8 : Byte, ∀ x ∈ arithTable d8, ∀ s : State,
    let a := s.a
    let b := secondOperand s x.2.2
    let cin := (decide (x.1 = .adc ∨ x.1 = .sbc)) && s.flag .c
    ∃ t, exec x.2.1 s = .next t ∧
      (x.1 = .add ∨ x.1 = .adc → t.a = addRes a b cin ∧
        t.flag .h = addH a b cin ∧ t.flag .c = addC a b cin) ∧
      (x.1 = .sub ∨ x.1 = .sbc → t.a = subRes a b cin) ∧
      (x.1 = .sub ∨ x.1 = .sbc ∨ x.1 = .cp →
        t.flag .h = subH a b cin ∧ t.flag .c = subC a b cin))

/-- R130: the 27 logic instructions combine `A` and the operand bit by bit, write all four flags whatever they
were (H is 1 for `AND` and 0 for `XOR` and `OR`, N and C are 0), keep the bits that are no
named flag's (`F[3:0]` at the default positions), change nothing else but `PC` and `cycle_count`, and complete. -/
def Obligations.LogicOperations : Prop :=
  ∀ d8 : Byte, ∀ x ∈ logicTable d8, ∀ s : State, let b := secondOperand s x.2.2
    ∃ t, exec x.2.1 s = .next t ∧
    (∀ k, k < 8 → t.a.getLsbD k =
      (if x.1 = .and then s.a.getLsbD k && b.getLsbD k
       else if x.1 = .xor then s.a.getLsbD k != b.getLsbD k
       else s.a.getLsbD k || b.getLsbD k)) ∧
    FlagsAre t (decide (t.a = 0#8)) false (decide (x.1 = .and)) false ∧
    OtherBitsKept s t ∧ OnlyAccumulatorAndFlags s t

/-- R110: the 72 ALU instructions.  The opcode byte selects the operation and the operand class; the class sets
the operand, the memory transactions, the length and the cost; the result and the flags depend on `a`, `b` and,
for `ADC` and `SBC` only, Carry, by one function for all classes; `A` (not for `CP`) and the four flags are
written and nothing else but `PC` and `cycle_count`.  (The operation and operand codes are decision D5.) -/
def Obligations.AluSkeleton : Prop :=
  ∃ result : AluOp → Byte → Byte → Bool → Byte, ∃ flags : AluOp → Byte → Byte → Bool → Flag → Bool,
    (∀ op a b, op ≠ .adc → op ≠ .sbc →
      result op a b true = result op a b false ∧ flags op a b true = flags op a b false) ∧
    ∀ d8 : Byte, ∀ x ∈ arithTable d8 ++ logicTable d8, ∀ s : State,
      (encode x.2.1).head? = some (aluPattern x.1 x.2.2) ∧
      (s.fault = none → ∀ rest, decode [s.read8 s.pc, s.read8 (s.pc + 1#16)] = .ok (x.2.1, rest) →
        stepTransactions s = .read s.pc (s.read8 s.pc) :: aluReads s x.2.2 ∧
        (x.2.2 = .d8 d8 → s.read8 (s.pc + 1#16) = d8)) ∧
      ∃ t, exec x.2.1 s = .next t ∧
        t.a = (if x.1 = .cp then s.a
          else result x.1 s.a (secondOperand s x.2.2) (s.flag .c)) ∧
        (∀ fl, t.flag fl = flags x.1 s.a (secondOperand s x.2.2) (s.flag .c) fl) ∧
        OtherBitsKept s t ∧ OnlyAccumulatorAndFlags s t ∧
        Advanced s t (aluLen x.2.2) (aluCost x.2.2)

/-- R132: the one opcode the source gives.  A step that fetches `0xA6` runs `AND A,(HL)`: two reads, the result,
the four flags, `PC` by 1, `cycle_count` by 8, and nothing else but the `opcode` latch. -/
def Obligations.AndAtHLFromItsOpcode : Prop :=
  encode .and_A_atHL = [0b10_100_110#8] ∧
  ∀ s : State, s.fault = none → s.read8 s.pc = 0xA6#8 →
    stepTransactions s =
      [.read s.pc 0xA6#8, .read (joinBytes s.h s.l) (s.read8 (joinBytes s.h s.l))] ∧
    ∃ t, step s = .next t ∧
      t.a = s.a &&& s.read8 (joinBytes s.h s.l) ∧
      FlagsAre t (decide (s.a &&& s.read8 (joinBytes s.h s.l) = 0#8)) false true false ∧
      OtherBitsKept s t ∧ t.opcode = 0xA6#8 ∧
      t = { s with a := t.a, f := t.f, opcode := t.opcode, pc := t.pc, cycleCount := t.cycleCount } ∧
      Advanced s t 1#16 8#16

/-- R140, of the default flag positions (decision D3): after an ALU instruction the high nibble of `F` is `1010` or
`0010` for `AND`, `1000` or `0000` for `XOR` and `OR`; bit 6 is 0 for `ADD` and `ADC` and 1 for `SUB`, `SBC`
and `CP`; `F[3:0]` is what it was. -/
def Obligations.FlagNibbleAfterAlu : Prop :=
  ∀ d8 : Byte, ∀ x ∈ arithTable d8 ++ logicTable d8, ∀ s : State,
    s.params.flagPos = Sys2Proof.Machine.FlagPositions.standard → ∃ t, exec x.2.1 s = .next t ∧
    (x.1 = .and → t.f.extractLsb' 4 4 = 0b1010#4 ∨ t.f.extractLsb' 4 4 = 0b0010#4) ∧
    (x.1 = .xor ∨ x.1 = .or → t.f.extractLsb' 4 4 = 0b1000#4 ∨ t.f.extractLsb' 4 4 = 0b0000#4) ∧
    (x.1 = .add ∨ x.1 = .adc → t.f.getLsbD 6 = false) ∧
    (x.1 = .sub ∨ x.1 = .sbc ∨ x.1 = .cp → t.f.getLsbD 6 = true) ∧
    t.f.extractLsb' 0 4 = s.f.extractLsb' 0 4
end

