-- ==== Sys2Proof/Laws/State.lean ====
section
/-! SUPPORT. One lemma per field and update of the state, and what each update does to the derived reads
(`reg`, `read8`, `hl`, `pair`, `flag`), so that no proof unfolds a record update. -/
namespace Sys2Proof.Machine

@[simp] theorem State.reg_b (s : State) : s.reg .b = s.b := rfl
@[simp] theorem State.reg_c (s : State) : s.reg .c = s.c := rfl
@[simp] theorem State.reg_d (s : State) : s.reg .d = s.d := rfl
@[simp] theorem State.reg_e (s : State) : s.reg .e = s.e := rfl
@[simp] theorem State.reg_h (s : State) : s.reg .h = s.h := rfl
@[simp] theorem State.reg_l (s : State) : s.reg .l = s.l := rfl
@[simp] theorem State.reg_a (s : State) : s.reg .a = s.a := rfl

@[simp] theorem State.setReg_b (s : State) (v : Byte) : s.setReg .b v = { s with b := v } := rfl
@[simp] theorem State.setReg_c (s : State) (v : Byte) : s.setReg .c v = { s with c := v } := rfl
@[simp] theorem State.setReg_d (s : State) (v : Byte) : s.setReg .d v = { s with d := v } := rfl
@[simp] theorem State.setReg_e (s : State) (v : Byte) : s.setReg .e v = { s with e := v } := rfl
@[simp] theorem State.setReg_h (s : State) (v : Byte) : s.setReg .h v = { s with h := v } := rfl
@[simp] theorem State.setReg_l (s : State) (v : Byte) : s.setReg .l v = { s with l := v } := rfl
@[simp] theorem State.setReg_a (s : State) (v : Byte) : s.setReg .a v = { s with a := v } := rfl

@[simp] theorem State.setReg_keeps_f (s : State) (r : Reg8) (v : Byte) : (s.setReg r v).f = s.f := by cases r <;> rfl
@[simp] theorem State.setReg_keeps_pc (s : State) (r : Reg8) (v : Byte) : (s.setReg r v).pc = s.pc := by cases r <;> rfl
@[simp] theorem State.setReg_keeps_sp (s : State) (r : Reg8) (v : Byte) : (s.setReg r v).sp = s.sp := by cases r <;> rfl
@[simp] theorem State.setReg_keeps_cycleCount (s : State) (r : Reg8) (v : Byte) : (s.setReg r v).cycleCount = s.cycleCount := by cases r <;> rfl
@[simp] theorem State.setReg_keeps_opcode (s : State) (r : Reg8) (v : Byte) : (s.setReg r v).opcode = s.opcode := by cases r <;> rfl
@[simp] theorem State.setReg_keeps_mem (s : State) (r : Reg8) (v : Byte) : (s.setReg r v).mem = s.mem := by cases r <;> rfl
@[simp] theorem State.setReg_keeps_fault (s : State) (r : Reg8) (v : Byte) : (s.setReg r v).fault = s.fault := by cases r <;> rfl
@[simp] theorem State.setReg_keeps_params (s : State) (r : Reg8) (v : Byte) : (s.setReg r v).params = s.params := by cases r <;> rfl

/-- R11: a write to one half changes exactly that half. -/
@[simp] theorem State.reg_setReg (s : State) (r r' : Reg8) (v : Byte) :
    (s.setReg r v).reg r' = if r' = r then v else s.reg r' := by cases r <;> cases r' <;> rfl
@[simp] theorem State.read8_setReg (s : State) (r : Reg8) (v : Byte) (a : Word) :
    (s.setReg r v).read8 a = s.read8 a := by cases r <;> rfl

@[simp] theorem State.write8_a (s : State) (a : Word) (v : Byte) : (s.write8 a v).a = s.a := rfl
@[simp] theorem State.write8_f (s : State) (a : Word) (v : Byte) : (s.write8 a v).f = s.f := rfl
@[simp] theorem State.write8_b (s : State) (a : Word) (v : Byte) : (s.write8 a v).b = s.b := rfl
@[simp] theorem State.write8_c (s : State) (a : Word) (v : Byte) : (s.write8 a v).c = s.c := rfl
@[simp] theorem State.write8_d (s : State) (a : Word) (v : Byte) : (s.write8 a v).d = s.d := rfl
@[simp] theorem State.write8_e (s : State) (a : Word) (v : Byte) : (s.write8 a v).e = s.e := rfl
@[simp] theorem State.write8_h (s : State) (a : Word) (v : Byte) : (s.write8 a v).h = s.h := rfl
@[simp] theorem State.write8_l (s : State) (a : Word) (v : Byte) : (s.write8 a v).l = s.l := rfl
@[simp] theorem State.write8_pc (s : State) (a : Word) (v : Byte) : (s.write8 a v).pc = s.pc := rfl
@[simp] theorem State.write8_sp (s : State) (a : Word) (v : Byte) : (s.write8 a v).sp = s.sp := rfl
@[simp] theorem State.write8_cycleCount (s : State) (a : Word) (v : Byte) : (s.write8 a v).cycleCount = s.cycleCount := rfl
@[simp] theorem State.write8_opcode (s : State) (a : Word) (v : Byte) : (s.write8 a v).opcode = s.opcode := rfl
@[simp] theorem State.write8_mem (s : State) (a : Word) (v : Byte) : (s.write8 a v).mem = Memory.write s.mem a.toNat v := rfl
@[simp] theorem State.write8_fault (s : State) (a : Word) (v : Byte) : (s.write8 a v).fault = s.fault := rfl
@[simp] theorem State.write8_params (s : State) (a : Word) (v : Byte) : (s.write8 a v).params = s.params := rfl
@[simp] theorem State.reg_write8 (s : State) (a : Word) (v : Byte) (r : Reg8) : (s.write8 a v).reg r = s.reg r := by cases r <;> rfl
@[simp] theorem State.hl_write8 (s : State) (a : Word) (v : Byte) : (s.write8 a v).hl = s.hl := rfl
@[simp] theorem State.flagPos_write8 (s : State) (a : Word) (v : Byte) (fl : Flag) : (s.write8 a v).flagPos fl = s.flagPos fl := rfl
@[simp] theorem State.flag_write8 (s : State) (a : Word) (v : Byte) (fl : Flag) : (s.write8 a v).flag fl = s.flag fl := rfl

@[simp] theorem State.advance_a (s : State) (len cost : Word) : (s.advance len cost).a = s.a := rfl
@[simp] theorem State.advance_f (s : State) (len cost : Word) : (s.advance len cost).f = s.f := rfl
@[simp] theorem State.advance_b (s : State) (len cost : Word) : (s.advance len cost).b = s.b := rfl
@[simp] theorem State.advance_c (s : State) (len cost : Word) : (s.advance len cost).c = s.c := rfl
@[simp] theorem State.advance_d (s : State) (len cost : Word) : (s.advance len cost).d = s.d := rfl
@[simp] theorem State.advance_e (s : State) (len cost : Word) : (s.advance len cost).e = s.e := rfl
@[simp] theorem State.advance_h (s : State) (len cost : Word) : (s.advance len cost).h = s.h := rfl
@[simp] theorem State.advance_l (s : State) (len cost : Word) : (s.advance len cost).l = s.l := rfl
@[simp] theorem State.advance_pc (s : State) (len cost : Word) : (s.advance len cost).pc = s.pc + len := rfl
@[simp] theorem State.advance_sp (s : State) (len cost : Word) : (s.advance len cost).sp = s.sp := rfl
@[simp] theorem State.advance_cycleCount (s : State) (len cost : Word) : (s.advance len cost).cycleCount = s.cycleCount + cost := rfl
@[simp] theorem State.advance_opcode (s : State) (len cost : Word) : (s.advance len cost).opcode = s.opcode := rfl
@[simp] theorem State.advance_mem (s : State) (len cost : Word) : (s.advance len cost).mem = s.mem := rfl
@[simp] theorem State.advance_fault (s : State) (len cost : Word) : (s.advance len cost).fault = s.fault := rfl
@[simp] theorem State.advance_params (s : State) (len cost : Word) : (s.advance len cost).params = s.params := rfl
@[simp] theorem State.reg_advance (s : State) (len cost : Word) (r : Reg8) : (s.advance len cost).reg r = s.reg r := by cases r <;> rfl
@[simp] theorem State.hl_advance (s : State) (len cost : Word) : (s.advance len cost).hl = s.hl := rfl
@[simp] theorem State.flagPos_advance (s : State) (len cost : Word) (fl : Flag) : (s.advance len cost).flagPos fl = s.flagPos fl := rfl
@[simp] theorem State.flag_advance (s : State) (len cost : Word) (fl : Flag) : (s.advance len cost).flag fl = s.flag fl := rfl
@[simp] theorem State.read8_advance (s : State) (len cost : Word) (x : Word) : (s.advance len cost).read8 x = s.read8 x := rfl

@[simp] theorem State.latchOpcode_a (s : State) (op : Byte) : (s.latchOpcode op).a = s.a := rfl
@[simp] theorem State.latchOpcode_f (s : State) (op : Byte) : (s.latchOpcode op).f = s.f := rfl
@[simp] theorem State.latchOpcode_b (s : State) (op : Byte) : (s.latchOpcode op).b = s.b := rfl
@[simp] theorem State.latchOpcode_c (s : State) (op : Byte) : (s.latchOpcode op).c = s.c := rfl
@[simp] theorem State.latchOpcode_d (s : State) (op : Byte) : (s.latchOpcode op).d = s.d := rfl
@[simp] theorem State.latchOpcode_e (s : State) (op : Byte) : (s.latchOpcode op).e = s.e := rfl
@[simp] theorem State.latchOpcode_h (s : State) (op : Byte) : (s.latchOpcode op).h = s.h := rfl
@[simp] theorem State.latchOpcode_l (s : State) (op : Byte) : (s.latchOpcode op).l = s.l := rfl
@[simp] theorem State.latchOpcode_pc (s : State) (op : Byte) : (s.latchOpcode op).pc = s.pc := rfl
@[simp] theorem State.latchOpcode_sp (s : State) (op : Byte) : (s.latchOpcode op).sp = s.sp := rfl
@[simp] theorem State.latchOpcode_cycleCount (s : State) (op : Byte) : (s.latchOpcode op).cycleCount = s.cycleCount := rfl
@[simp] theorem State.latchOpcode_opcode (s : State) (op : Byte) : (s.latchOpcode op).opcode = op := rfl
@[simp] theorem State.latchOpcode_mem (s : State) (op : Byte) : (s.latchOpcode op).mem = s.mem := rfl
@[simp] theorem State.latchOpcode_fault (s : State) (op : Byte) : (s.latchOpcode op).fault = s.fault := rfl
@[simp] theorem State.latchOpcode_params (s : State) (op : Byte) : (s.latchOpcode op).params = s.params := rfl
@[simp] theorem State.reg_latchOpcode (s : State) (op : Byte) (r : Reg8) : (s.latchOpcode op).reg r = s.reg r := by cases r <;> rfl
@[simp] theorem State.hl_latchOpcode (s : State) (op : Byte) : (s.latchOpcode op).hl = s.hl := rfl
@[simp] theorem State.flagPos_latchOpcode (s : State) (op : Byte) (fl : Flag) : (s.latchOpcode op).flagPos fl = s.flagPos fl := rfl
@[simp] theorem State.flag_latchOpcode (s : State) (op : Byte) (fl : Flag) : (s.latchOpcode op).flag fl = s.flag fl := rfl
@[simp] theorem State.read8_latchOpcode (s : State) (op : Byte) (x : Word) : (s.latchOpcode op).read8 x = s.read8 x := rfl

@[simp] theorem State.raiseUndefinedOpcode_a (s : State) (op : Byte) (pc0 : Word) : (s.raiseUndefinedOpcode op pc0).a = s.a := rfl
@[simp] theorem State.raiseUndefinedOpcode_f (s : State) (op : Byte) (pc0 : Word) : (s.raiseUndefinedOpcode op pc0).f = s.f := rfl
@[simp] theorem State.raiseUndefinedOpcode_b (s : State) (op : Byte) (pc0 : Word) : (s.raiseUndefinedOpcode op pc0).b = s.b := rfl
@[simp] theorem State.raiseUndefinedOpcode_c (s : State) (op : Byte) (pc0 : Word) : (s.raiseUndefinedOpcode op pc0).c = s.c := rfl
@[simp] theorem State.raiseUndefinedOpcode_d (s : State) (op : Byte) (pc0 : Word) : (s.raiseUndefinedOpcode op pc0).d = s.d := rfl
@[simp] theorem State.raiseUndefinedOpcode_e (s : State) (op : Byte) (pc0 : Word) : (s.raiseUndefinedOpcode op pc0).e = s.e := rfl
@[simp] theorem State.raiseUndefinedOpcode_h (s : State) (op : Byte) (pc0 : Word) : (s.raiseUndefinedOpcode op pc0).h = s.h := rfl
@[simp] theorem State.raiseUndefinedOpcode_l (s : State) (op : Byte) (pc0 : Word) : (s.raiseUndefinedOpcode op pc0).l = s.l := rfl
@[simp] theorem State.raiseUndefinedOpcode_pc (s : State) (op : Byte) (pc0 : Word) : (s.raiseUndefinedOpcode op pc0).pc = s.pc := rfl
@[simp] theorem State.raiseUndefinedOpcode_sp (s : State) (op : Byte) (pc0 : Word) : (s.raiseUndefinedOpcode op pc0).sp = s.sp := rfl
@[simp] theorem State.raiseUndefinedOpcode_cycleCount (s : State) (op : Byte) (pc0 : Word) : (s.raiseUndefinedOpcode op pc0).cycleCount = s.cycleCount := rfl
@[simp] theorem State.raiseUndefinedOpcode_opcode (s : State) (op : Byte) (pc0 : Word) : (s.raiseUndefinedOpcode op pc0).opcode = s.opcode := rfl
@[simp] theorem State.raiseUndefinedOpcode_mem (s : State) (op : Byte) (pc0 : Word) : (s.raiseUndefinedOpcode op pc0).mem = s.mem := rfl
@[simp] theorem State.raiseUndefinedOpcode_fault (s : State) (op : Byte) (pc0 : Word) : (s.raiseUndefinedOpcode op pc0).fault = some ⟨op, pc0⟩ := rfl
@[simp] theorem State.raiseUndefinedOpcode_params (s : State) (op : Byte) (pc0 : Word) : (s.raiseUndefinedOpcode op pc0).params = s.params := rfl
@[simp] theorem State.reg_raiseUndefinedOpcode (s : State) (op : Byte) (pc0 : Word) (r : Reg8) : (s.raiseUndefinedOpcode op pc0).reg r = s.reg r := by cases r <;> rfl
@[simp] theorem State.hl_raiseUndefinedOpcode (s : State) (op : Byte) (pc0 : Word) : (s.raiseUndefinedOpcode op pc0).hl = s.hl := rfl
@[simp] theorem State.flagPos_raiseUndefinedOpcode (s : State) (op : Byte) (pc0 : Word) (fl : Flag) : (s.raiseUndefinedOpcode op pc0).flagPos fl = s.flagPos fl := rfl
@[simp] theorem State.flag_raiseUndefinedOpcode (s : State) (op : Byte) (pc0 : Word) (fl : Flag) : (s.raiseUndefinedOpcode op pc0).flag fl = s.flag fl := rfl
@[simp] theorem State.read8_raiseUndefinedOpcode (s : State) (op : Byte) (pc0 : Word) (x : Word) : (s.raiseUndefinedOpcode op pc0).read8 x = s.read8 x := rfl

@[simp] theorem State.setPairHigh_bc (s : State) (v : Byte) : s.setPairHigh .bc v = { s with b := v } := rfl
@[simp] theorem State.setPairHigh_de (s : State) (v : Byte) : s.setPairHigh .de v = { s with d := v } := rfl
@[simp] theorem State.setPairHigh_hl (s : State) (v : Byte) : s.setPairHigh .hl v = { s with h := v } := rfl
@[simp] theorem State.setPairHigh_af (s : State) (v : Byte) : s.setPairHigh .af v = { s with a := v } := rfl
@[simp] theorem State.setPairHigh_keeps_pc (s : State) (p : Pair) (v : Byte) : (s.setPairHigh p v).pc = s.pc := by cases p <;> rfl
@[simp] theorem State.setPairHigh_keeps_sp (s : State) (p : Pair) (v : Byte) : (s.setPairHigh p v).sp = s.sp := by cases p <;> rfl
@[simp] theorem State.setPairHigh_keeps_cycleCount (s : State) (p : Pair) (v : Byte) : (s.setPairHigh p v).cycleCount = s.cycleCount := by cases p <;> rfl
@[simp] theorem State.setPairHigh_keeps_opcode (s : State) (p : Pair) (v : Byte) : (s.setPairHigh p v).opcode = s.opcode := by cases p <;> rfl
@[simp] theorem State.setPairHigh_keeps_mem (s : State) (p : Pair) (v : Byte) : (s.setPairHigh p v).mem = s.mem := by cases p <;> rfl
@[simp] theorem State.setPairHigh_keeps_fault (s : State) (p : Pair) (v : Byte) : (s.setPairHigh p v).fault = s.fault := by cases p <;> rfl
@[simp] theorem State.setPairHigh_keeps_params (s : State) (p : Pair) (v : Byte) : (s.setPairHigh p v).params = s.params := by cases p <;> rfl

@[simp] theorem State.setPairLow_bc (s : State) (v : Byte) : s.setPairLow .bc v = { s with c := v } := rfl
@[simp] theorem State.setPairLow_de (s : State) (v : Byte) : s.setPairLow .de v = { s with e := v } := rfl
@[simp] theorem State.setPairLow_hl (s : State) (v : Byte) : s.setPairLow .hl v = { s with l := v } := rfl
@[simp] theorem State.setPairLow_af (s : State) (v : Byte) : s.setPairLow .af v = { s with f := v } := rfl
@[simp] theorem State.setPairLow_keeps_pc (s : State) (p : Pair) (v : Byte) : (s.setPairLow p v).pc = s.pc := by cases p <;> rfl
@[simp] theorem State.setPairLow_keeps_sp (s : State) (p : Pair) (v : Byte) : (s.setPairLow p v).sp = s.sp := by cases p <;> rfl
@[simp] theorem State.setPairLow_keeps_cycleCount (s : State) (p : Pair) (v : Byte) : (s.setPairLow p v).cycleCount = s.cycleCount := by cases p <;> rfl
@[simp] theorem State.setPairLow_keeps_opcode (s : State) (p : Pair) (v : Byte) : (s.setPairLow p v).opcode = s.opcode := by cases p <;> rfl
@[simp] theorem State.setPairLow_keeps_mem (s : State) (p : Pair) (v : Byte) : (s.setPairLow p v).mem = s.mem := by cases p <;> rfl
@[simp] theorem State.setPairLow_keeps_fault (s : State) (p : Pair) (v : Byte) : (s.setPairLow p v).fault = s.fault := by cases p <;> rfl
@[simp] theorem State.setPairLow_keeps_params (s : State) (p : Pair) (v : Byte) : (s.setPairLow p v).params = s.params := by cases p <;> rfl

@[simp] theorem State.readPlace_reg (s : State) (r : Reg8) : s.readPlace (.reg r) = s.reg r := rfl
@[simp] theorem State.readPlace_atHL (s : State) : s.readPlace .atHL = s.read8 s.hl := rfl
@[simp] theorem State.writePlace_reg (s : State) (r : Reg8) (v : Byte) : s.writePlace (.reg r) v = s.setReg r v := rfl
@[simp] theorem State.writePlace_atHL (s : State) (v : Byte) : s.writePlace .atHL v = s.write8 s.hl v := rfl
@[simp] theorem State.operand_reg (s : State) (r : Reg8) : s.operand (.reg r) = s.reg r := rfl
@[simp] theorem State.operand_atHL (s : State) : s.operand .atHL = s.read8 s.hl := rfl
@[simp] theorem State.operand_d8 (s : State) (v : Byte) : s.operand (.d8 v) = v := rfl

end Sys2Proof.Machine
end

