-- ==== Sys2Proof/Laws/Memory.lean ====
section
/-! SUPPORT. Bytes and words, and the laws of the memory list: reading after writing, writing elsewhere,
and that every memory operation keeps the canonical form (`Memory.wf`). -/
namespace Sys2Proof.Machine

/-! ### Bytes of a word -/

theorem getLsbD_joinBytes (hi lo : Byte) (i : Nat) :
    (joinBytes hi lo).getLsbD i = if i < 8 then lo.getLsbD i else hi.getLsbD (i - 8) := by
  have h := BitVec.getLsbD_append (x := hi) (y := lo) (i := i)
  exact h

@[simp] theorem highByte_joinBytes (hi lo : Byte) : highByte (joinBytes hi lo) = hi := by
  apply BitVec.eq_of_getLsbD_eq
  intro i hi'
  simp [highByte, getLsbD_joinBytes, hi']

@[simp] theorem lowByte_joinBytes (hi lo : Byte) : lowByte (joinBytes hi lo) = lo := by
  apply BitVec.eq_of_getLsbD_eq
  intro i hi'
  simp [lowByte, getLsbD_joinBytes, hi']

@[simp] theorem joinBytes_high_low (w : Word) : joinBytes (highByte w) (lowByte w) = w := by
  apply BitVec.eq_of_getLsbD_eq
  intro i hi'
  rw [getLsbD_joinBytes]
  split
  · simp [lowByte, *]
  · have h2 : i - 8 < 8 := by omega
    have h3 : 8 + (i - 8) = i := by omega
    simp [highByte, h2, h3]

/-! ### The canonical form -/

theorem Memory.wfFrom_weaken {lo lo' : Nat} {m : Memory} (hle : lo' ≤ lo)
    (h : Memory.wfFrom lo m = true) : Memory.wfFrom lo' m = true := by
  cases m with
  | nil => rfl
  | cons p rest =>
    simp only [Memory.wfFrom, Bool.and_eq_true, decide_eq_true_eq] at h ⊢
    exact ⟨⟨⟨by omega, h.1.1.2⟩, h.1.2⟩, h.2⟩

/-- Below the addresses it lists, a canonical memory reads as unwritten. -/
theorem Memory.read_of_wfFrom_lt {lo : Nat} {m : Memory} (h : Memory.wfFrom lo m = true)
    {a : Nat} (ha : a < lo) : Memory.read m a = unwrittenByte := by
  induction m generalizing lo with
  | nil => rfl
  | cons p rest ih =>
    simp only [Memory.wfFrom, Bool.and_eq_true, decide_eq_true_eq] at h
    have hne : ¬ p.1 = a := by omega
    simp only [Memory.read, hne, if_false]
    exact ih h.2 (by omega)

theorem Memory.wfFrom_write {lo : Nat} {m : Memory} (h : Memory.wfFrom lo m = true) {a : Nat}
    (hlo : lo ≤ a) (ha : a < memBytes) (v : Byte) :
    Memory.wfFrom lo (Memory.write m a v) = true := by
  induction m generalizing lo with
  | nil =>
    by_cases hv : v = unwrittenByte
    · simp [Memory.write, Memory.wfFrom, hv]
    · simp [Memory.write, Memory.wfFrom, hv, hlo, ha]
  | cons p rest ih =>
    obtain ⟨k, w⟩ := p
    have h' := h
    simp only [Memory.wfFrom, Bool.and_eq_true, decide_eq_true_eq] at h'
    obtain ⟨⟨⟨hk, hkb⟩, hw⟩, hrest⟩ := h'
    simp only [Memory.write]
    split
    · rename_i hlt
      split
      · exact h
      · rename_i hv
        have := Memory.wfFrom_weaken (show a + 1 ≤ k by omega) (show Memory.wfFrom k ((k, w) :: rest) = true by
          simp [Memory.wfFrom, hkb, hw, hrest])
        simp only [Memory.wfFrom, Bool.and_eq_true, decide_eq_true_eq] at this ⊢
        exact ⟨⟨⟨hlo, ha⟩, hv⟩, this⟩
    · split
      · rename_i heq
        split
        · exact Memory.wfFrom_weaken (by omega) hrest
        · rename_i hv
          subst heq
          simp only [Memory.wfFrom, Bool.and_eq_true, decide_eq_true_eq]
          exact ⟨⟨⟨hk, hkb⟩, hv⟩, hrest⟩
      · simp only [Memory.wfFrom, Bool.and_eq_true, decide_eq_true_eq]
        exact ⟨⟨⟨hk, hkb⟩, hw⟩, ih hrest (by omega)⟩

/-- A store at a 16-bit address keeps the canonical form. -/
theorem Memory.wf_write {m : Memory} (h : Memory.wf m = true) (a : Word) (v : Byte) :
    Memory.wf (Memory.write m a.toNat v) = true :=
  Memory.wfFrom_write h (Nat.zero_le _) a.isLt v

/-! ### Reading after writing -/

/-- A store leaves every other cell as it was, in any memory. -/
theorem Memory.read_write_other (m : Memory) {a x : Nat} (hne : x ≠ a) (v : Byte) :
    Memory.read (Memory.write m a v) x = Memory.read m x := by
  induction m with
  | nil =>
    by_cases hv : v = unwrittenByte <;> simp [Memory.write, Memory.read, hv, Ne.symm hne]
  | cons p rest ih =>
    obtain ⟨k, w⟩ := p
    simp only [Memory.write]
    split
    · split
      · rfl
      · simp [Memory.read, Ne.symm hne]
    · split
      · rename_i heq
        subst heq
        split <;> simp [Memory.read, Ne.symm hne]
      · simp only [Memory.read, ih]

/-- A store is seen by a later read of its cell. -/
theorem Memory.read_write_same {lo : Nat} {m : Memory} (h : Memory.wfFrom lo m = true) (a : Nat)
    (v : Byte) : Memory.read (Memory.write m a v) a = v := by
  induction m generalizing lo with
  | nil =>
    by_cases hv : v = unwrittenByte <;> simp [Memory.write, Memory.read, hv]
  | cons p rest ih =>
    obtain ⟨k, w⟩ := p
    have h' := h
    simp only [Memory.wfFrom, Bool.and_eq_true, decide_eq_true_eq] at h'
    simp only [Memory.write]
    split
    · rename_i hlt
      split
      · rename_i hv
        have hne : ¬ k = a := by omega
        have hr := Memory.read_of_wfFrom_lt h'.2 (show a < k + 1 by omega)
        simp [Memory.read, hne, hr, hv]
      · simp [Memory.read]
    · split
      · rename_i heq
        subst heq
        split
        · rename_i hv
          rw [Memory.read_of_wfFrom_lt h'.2 (by omega), hv]
        · simp [Memory.read]
      · rename_i hne
        have hne' : ¬ k = a := fun e => hne e.symm
        simp [Memory.read, hne', ih h'.2]

/-- R45: what a read finds after a store. -/
theorem State.read8_write8 {s : State} (h : Memory.wf s.mem = true) (a x : Word) (v : Byte) :
    (s.write8 a v).read8 x = if x = a then v else s.read8 x := by
  by_cases hx : x = a
  · subst hx
    simpa [State.read8] using Memory.read_write_same (lo := 0) h _ v
  · have : x.toNat ≠ a.toNat := fun e => hx (BitVec.eq_of_toNat_eq e)
    simp [State.read8, hx, Memory.read_write_other _ this]

/-- A store leaves the other addresses as they were, whatever the memory's form. -/
theorem State.read8_write8_other (s : State) {a x : Word} (hne : x ≠ a) (v : Byte) :
    (s.write8 a v).read8 x = s.read8 x := by
  have : x.toNat ≠ a.toNat := fun e => hne (BitVec.eq_of_toNat_eq e)
  simp [State.read8, Memory.read_write_other _ this]

theorem State.wf_write8 {s : State} (h : Memory.wf s.mem = true) (a : Word) (v : Byte) :
    Memory.wf (s.write8 a v).mem = true := Memory.wf_write h a v

theorem State.wf_writeWord {s : State} (h : Memory.wf s.mem = true) (a v : Word) :
    Memory.wf (s.writeWord a v).mem = true := State.wf_write8 (State.wf_write8 h _ _) _ _

/-! ### The reset image -/

theorem Memory.wfFrom_tabulate (bytes : Nat → Byte) (lo n : Nat) (h : lo + n ≤ memBytes) :
    Memory.wfFrom lo (Memory.tabulate bytes lo n) = true := by
  induction n generalizing lo with
  | zero => rfl
  | succ n ih =>
    have hi := ih (lo + 1) (by omega)
    simp only [Memory.tabulate]
    split
    · exact Memory.wfFrom_weaken (by omega) hi
    · rename_i hv
      simp only [Memory.wfFrom, Bool.and_eq_true, decide_eq_true_eq]
      exact ⟨⟨⟨Nat.le_refl _, by omega⟩, hv⟩, hi⟩

theorem Memory.read_tabulate (bytes : Nat → Byte) (lo n : Nat) (hn : lo + n ≤ memBytes) {a : Nat}
    (h1 : lo ≤ a) (h2 : a < lo + n) : Memory.read (Memory.tabulate bytes lo n) a = bytes a := by
  induction n generalizing lo with
  | zero => omega
  | succ n ih =>
    simp only [Memory.tabulate]
    split
    · rename_i hv
      by_cases ha : a = lo
      · subst ha
        rw [hv]
        exact Memory.read_of_wfFrom_lt (Memory.wfFrom_tabulate bytes (a + 1) n (by omega)) (by omega)
      · exact ih (lo + 1) (by omega) (by omega) (by omega)
    · by_cases ha : a = lo
      · subst ha
        simp [Memory.read]
      · have hne : ¬ lo = a := fun e => ha e.symm
        simp only [Memory.read, hne, if_false]
        exact ih (lo + 1) (by omega) (by omega) (by omega)

theorem Memory.tabulate_unwritten (bytes : Nat → Byte) (lo n : Nat)
    (h : ∀ a, bytes a = unwrittenByte) : Memory.tabulate bytes lo n = [] := by
  induction n generalizing lo with
  | zero => rfl
  | succ n ih => simp [Memory.tabulate, h lo, ih]

end Sys2Proof.Machine
end

