-- ==== Sys2Proof/Laws/Flags.lean ====
section
/-! SUPPORT. What the flag primitives and the flag writes do to each bit of `F`. -/
namespace Sys2Proof.Machine

/-- R16: two flags are never the same bit. -/
@[simp] theorem Flag.pos_inj (p : FlagPositions) {a b : Flag} : a.pos p = b.pos p ↔ a = b := by
  obtain ⟨z, n, h, c, hd⟩ := p
  simp only [distinctPositions, Bool.and_eq_true, decide_eq_true_eq] at hd
  obtain ⟨⟨⟨⟨⟨zn, zh⟩, zc⟩, nh⟩, nc⟩, hc⟩ := hd
  cases a <;> cases b <;> simp_all [Flag.pos, eq_comm]

theorem getFlag_setFlag (f : Byte) (v : Bool) (bit k : Fin 8) :
    getFlag (setFlag f v bit) k = (getFlag f k || (v && decide (k = bit))) := by
  have hk := k.isLt
  simp only [getFlag, setFlag, BitVec.getLsbD_or, BitVec.getLsbD_shiftLeft, BitVec.getLsbD_setWidth, Fin.ext_iff]
  by_cases h : k.val < bit.val
  · simp [h, h.ne]
  · have he : k.val - bit.val = 0 ↔ k.val = bit.val := by omega
    have hlt : k.val - bit.val < 8 := by omega
    simp [h, he, hlt, BitVec.getLsbD_ofBool, Bool.and_comm]

theorem getFlag_clearFlag (f : Byte) (bit k : Fin 8) :
    getFlag (clearFlag f bit) k = (getFlag f k && decide (k ≠ bit)) := by
  have hk := k.isLt
  simp only [getFlag, clearFlag, BitVec.getLsbD_and, BitVec.getLsbD_not, BitVec.getLsbD_shiftLeft,
    BitVec.getLsbD_one, ne_eq, Fin.ext_iff]
  by_cases h : k.val < bit.val
  · simp [h, h.ne]
  · have he : k.val - bit.val = 0 ↔ k.val = bit.val := by omega
    simp [h, he]

/-- `flag.X <- b` gives the flag's bit the value and keeps the other seven bits (R18). -/
theorem getFlag_assignFlag (p : FlagPositions) (f : Byte) (fl : Flag) (v : Bool) (bit : Fin 8) :
    getFlag (assignFlag p f fl v) bit = if bit = fl.pos p then v else getFlag f bit := by
  rw [assignFlag, getFlag_setFlag, getFlag_clearFlag]
  by_cases h : bit = fl.pos p <;> simp [h]

@[simp] theorem getFlag_writeZNH_z (p : FlagPositions) (f : Byte) (z n h : Bool) :
    getFlag (writeZNH p f z n h) (Flag.z.pos p) = z := by
  simp [writeZNH, getFlag_assignFlag]
@[simp] theorem getFlag_writeZNH_n (p : FlagPositions) (f : Byte) (z n h : Bool) :
    getFlag (writeZNH p f z n h) (Flag.n.pos p) = n := by
  simp [writeZNH, getFlag_assignFlag]
@[simp] theorem getFlag_writeZNH_h (p : FlagPositions) (f : Byte) (z n h : Bool) :
    getFlag (writeZNH p f z n h) (Flag.h.pos p) = h := by
  simp [writeZNH, getFlag_assignFlag]
/-- R100: Carry is not written. -/
@[simp] theorem getFlag_writeZNH_c (p : FlagPositions) (f : Byte) (z n h : Bool) :
    getFlag (writeZNH p f z n h) (Flag.c.pos p) = getFlag f (Flag.c.pos p) := by
  simp [writeZNH, getFlag_assignFlag]
/-- R100, R17: a bit that is no named flag's is not written. -/
theorem getFlag_writeZNH_other (p : FlagPositions) (f : Byte) (z n h : Bool) {bit : Fin 8}
    (hb : ∀ fl : Flag, bit ≠ fl.pos p) : getFlag (writeZNH p f z n h) bit = getFlag f bit := by
  simp [writeZNH, getFlag_assignFlag, hb]

@[simp] theorem getFlag_writeZNHC_z (p : FlagPositions) (f : Byte) (z n h c : Bool) :
    getFlag (writeZNHC p f z n h c) (Flag.z.pos p) = z := by
  simp [writeZNHC, getFlag_assignFlag]
@[simp] theorem getFlag_writeZNHC_n (p : FlagPositions) (f : Byte) (z n h c : Bool) :
    getFlag (writeZNHC p f z n h c) (Flag.n.pos p) = n := by
  simp [writeZNHC, getFlag_assignFlag]
@[simp] theorem getFlag_writeZNHC_h (p : FlagPositions) (f : Byte) (z n h c : Bool) :
    getFlag (writeZNHC p f z n h c) (Flag.h.pos p) = h := by
  simp [writeZNHC, getFlag_assignFlag]
@[simp] theorem getFlag_writeZNHC_c (p : FlagPositions) (f : Byte) (z n h c : Bool) :
    getFlag (writeZNHC p f z n h c) (Flag.c.pos p) = c := by
  simp [writeZNHC, getFlag_assignFlag]
/-- R17: no flag write touches a bit that is no named flag's. -/
theorem getFlag_writeZNHC_other (p : FlagPositions) (f : Byte) (z n h c : Bool) {bit : Fin 8}
    (hb : ∀ fl : Flag, bit ≠ fl.pos p) : getFlag (writeZNHC p f z n h c) bit = getFlag f bit := by
  simp [writeZNHC, getFlag_assignFlag, hb, getFlag_writeZNH_other p f z n h hb]

/-- R16 at the defaults: the bits that are no named flag's are `F[3:0]`. -/
theorem Flag.pos_standard_other (k : Fin 8) :
    (∀ fl : Flag, k ≠ fl.pos FlagPositions.standard) ↔ k.val < 4 := by
  constructor
  · intro h
    have hz : k ≠ 7 := h .z
    have hn : k ≠ 6 := h .n
    have hh : k ≠ 5 := h .h
    have hc : k ≠ 4 := h .c
    omega
  · intro h fl e
    subst e
    cases fl <;> revert h <;> decide

/-! ### The exact results of R126 and R100 in wrapping arithmetic -/

theorem addRes_eq (a b : Byte) (cin : Bool) :
    addRes a b cin = a + b + (BitVec.ofBool cin).setWidth 8 := by
  apply BitVec.eq_of_toNat_eq
  cases cin <;> simp [addRes, BitVec.toNat_add]

theorem subRes_eq (a b : Byte) (cin : Bool) :
    subRes a b cin = a - b - (BitVec.ofBool cin).setWidth 8 := by
  apply BitVec.eq_of_toNat_eq
  have ha := a.isLt
  have hb := b.isLt
  cases cin <;> simp [subRes, BitVec.toNat_sub, BitVec.toNat_ofInt] <;> omega

theorem incRes_eq (v : Byte) : incRes v = v + 1#8 := by
  apply BitVec.eq_of_toNat_eq
  simp [incRes, BitVec.toNat_add]

theorem decRes_eq (v : Byte) : decRes v = v - 1#8 := by
  revert v
  decide

theorem isZero_eq_true {v : Byte} : isZero v = true ↔ v = 0x00#8 := by simp [isZero]

end Sys2Proof.Machine
end

