-- ==== Sys2Proof/Laws/Exec.lean ====
section
/-! SUPPORT. Once for all 159 instructions: what a handler does, by the shape of the instruction, so that a
proof about every instruction is a proof about a few shapes. -/
namespace Sys2Proof.Machine

/-- The effect of an ALU operation on `A` and `F`. -/
def aluEffect : AluOp → Byte → State → State
  | .add => aluAdd
  | .adc => aluAdc
  | .sub => aluSub
  | .sbc => aluSbc
  | .and => aluAnd
  | .xor => aluXor
  | .or => aluOr
  | .cp => aluCp

/-- The state a handler leaves, by the shape of its instruction; the last line is for the shapes no
instruction has. -/
def shapeEffect (s : State) : Asm → State
  | .ld (.reg r) (.reg r') => (s.setReg r (s.reg r')).advance lenReg cycReg
  | .ld (.reg r) .atHL => (s.setReg r (s.read8 s.hl)).advance lenHL cycMem
  | .ld (.reg r) (.d8 v) => (s.setReg r v).advance lenImm cycMem
  | .ld .atHL (.reg r) => (s.write8 s.hl (s.reg r)).advance lenHL cycMem
  | .ld .atHL (.d8 v) => (s.write8 s.hl v).advance lenImm s.params.cycMem2
  | .inc (.reg r) => (incPlace (.reg r) s).advance lenReg cycReg
  | .inc .atHL => (incPlace .atHL s).advance lenHL s.params.cycMem2
  | .dec (.reg r) => (decPlace (.reg r) s).advance lenReg cycReg
  | .dec .atHL => (decPlace .atHL s).advance lenHL s.params.cycMem2
  | .alu op (.reg r) => (aluEffect op (s.reg r) s).advance lenReg cycReg
  | .alu op .atHL => (aluEffect op (s.read8 s.hl) s).advance lenHL cycMem
  | .alu op (.d8 v) => (aluEffect op v s).advance lenImm cycMem
  | _ => s

/-- Every handler completes (R40, R154), and its effect is that of its shape. -/
theorem exec_eq_shapeEffect (i : Instr) (s : State) : exec i s = .next (shapeEffect s i.asm) := by
  cases i <;> rfl

/-- What a handler can answer. -/
theorem exec_next {i : Instr} {s t : State} (h : exec i s = .next t) : t = shapeEffect s i.asm := by
  rw [exec_eq_shapeEffect] at h
  cases h
  rfl

/-- R70, R72: no instruction reads as an ill-formed assembly term. -/
theorem Instr.asm_wf (i : Instr) : i.asm.wf = true := by cases i <;> rfl

/-! ### What an ALU operation, an increment and a decrement leave alone -/

/-- R110: an ALU operation writes `A` and `F` and nothing else. -/
theorem aluEffect_frame (op : AluOp) (b : Byte) (s : State) :
    aluEffect op b s = { s with a := (aluEffect op b s).a, f := (aluEffect op b s).f } := by
  cases op <;> rfl

theorem aluEffect_mem (op : AluOp) (b : Byte) (s : State) : (aluEffect op b s).mem = s.mem := by cases op <;> rfl
theorem aluEffect_pc (op : AluOp) (b : Byte) (s : State) : (aluEffect op b s).pc = s.pc := by cases op <;> rfl
theorem aluEffect_sp (op : AluOp) (b : Byte) (s : State) : (aluEffect op b s).sp = s.sp := by cases op <;> rfl
theorem aluEffect_cycleCount (op : AluOp) (b : Byte) (s : State) : (aluEffect op b s).cycleCount = s.cycleCount := by
  cases op <;> rfl
theorem aluEffect_opcode (op : AluOp) (b : Byte) (s : State) : (aluEffect op b s).opcode = s.opcode := by
  cases op <;> rfl
theorem aluEffect_fault (op : AluOp) (b : Byte) (s : State) : (aluEffect op b s).fault = s.fault := by
  cases op <;> rfl

theorem aluEffect_params (op : AluOp) (b : Byte) (s : State) : (aluEffect op b s).params = s.params := by
  cases op <;> rfl

/-- R110, R17: no ALU operation touches a bit of `F` that is no named flag's. -/
theorem aluEffect_other (op : AluOp) (b : Byte) (s : State) {bit : Fin 8} (hb : ∀ fl, bit ≠ s.flagPos fl) :
    getFlag (aluEffect op b s).f bit = getFlag s.f bit := by
  cases op <;> exact getFlag_writeZNHC_other _ _ _ _ _ _ hb

/-- R100: `INC` writes its operand and `F`. -/
theorem incPlace_eq (p : Place) (s : State) :
    incPlace p s = { s.writePlace p (incRes (s.readPlace p)) with
      f := writeZNH s.params.flagPos s.f (isZero (incRes (s.readPlace p))) false (incH (s.readPlace p)) } := rfl

/-- R100: `DEC` writes its operand and `F`. -/
theorem decPlace_eq (p : Place) (s : State) :
    decPlace p s = { s.writePlace p (decRes (s.readPlace p)) with
      f := writeZNH s.params.flagPos s.f (isZero (decRes (s.readPlace p))) true (decH (s.readPlace p)) } := rfl

@[simp] theorem State.writePlace_params (s : State) (p : Place) (v : Byte) : (s.writePlace p v).params = s.params := by
  cases p <;> simp [State.writePlace]

/-! R100: the four flags after `INC` and after `DEC`. -/

theorem incPlace_params (p : Place) (s : State) : (incPlace p s).params = s.params :=
  State.writePlace_params s p _
theorem incPlace_flag_z (p : Place) (s : State) : (incPlace p s).flag .z = isZero (incRes (s.readPlace p)) := by
  simp [incPlace_eq, State.flag, State.flagPos]
theorem incPlace_flag_n (p : Place) (s : State) : (incPlace p s).flag .n = false := by
  simp [incPlace_eq, State.flag, State.flagPos]
theorem incPlace_flag_h (p : Place) (s : State) : (incPlace p s).flag .h = incH (s.readPlace p) := by
  simp [incPlace_eq, State.flag, State.flagPos]
theorem incPlace_flag_c (p : Place) (s : State) : (incPlace p s).flag .c = s.flag .c := by
  simp [incPlace_eq, State.flag, State.flagPos]

theorem decPlace_params (p : Place) (s : State) : (decPlace p s).params = s.params :=
  State.writePlace_params s p _
theorem decPlace_flag_z (p : Place) (s : State) : (decPlace p s).flag .z = isZero (decRes (s.readPlace p)) := by
  simp [decPlace_eq, State.flag, State.flagPos]
theorem decPlace_flag_n (p : Place) (s : State) : (decPlace p s).flag .n = true := by
  simp [decPlace_eq, State.flag, State.flagPos]
theorem decPlace_flag_h (p : Place) (s : State) : (decPlace p s).flag .h = decH (s.readPlace p) := by
  simp [decPlace_eq, State.flag, State.flagPos]
theorem decPlace_flag_c (p : Place) (s : State) : (decPlace p s).flag .c = s.flag .c := by
  simp [decPlace_eq, State.flag, State.flagPos]

/-! ### What no handler changes, and the canonical form -/

theorem shapeEffect_fault (s : State) (i : Instr) : (shapeEffect s i.asm).fault = s.fault := by cases i <;> rfl
theorem shapeEffect_opcode (s : State) (i : Instr) : (shapeEffect s i.asm).opcode = s.opcode := by cases i <;> rfl
theorem shapeEffect_params (s : State) (i : Instr) : (shapeEffect s i.asm).params = s.params := by cases i <;> rfl
theorem shapeEffect_sp (s : State) (i : Instr) : (shapeEffect s i.asm).sp = s.sp := by cases i <;> rfl

theorem shapeEffect_wf {s : State} (h : Memory.wf s.mem = true) (i : Instr) :
    Memory.wf (shapeEffect s i.asm).mem = true := by
  cases i <;> first | exact h | exact State.wf_write8 h _ _

end Sys2Proof.Machine
end

