-- ==== Sys2Proof/Laws/PerInstr.lean ====
section
/-! SUPPORT. One lemma per constructor of `Instr`: the decoder, written from the fields of R61 to R64, reads
back the bytes of R67's map, with every `d8`, and leaves the bytes after them. -/
namespace Sys2Proof.Laws.DecodeEncode

/-- Decoding the instruction's bytes, followed by any others, gives it and those others. -/
def Statement (i : Instr) : Prop := ∀ rest : List Byte, decode (encode i ++ rest) = .ok (i, rest)

theorem inc_B : Statement .inc_B := fun _ => rfl
theorem dec_B : Statement .dec_B := fun _ => rfl
theorem ld_B_d8 (d8 : Byte) : Statement (.ld_B_d8 d8) := fun _ => rfl
theorem inc_C : Statement .inc_C := fun _ => rfl
theorem dec_C : Statement .dec_C := fun _ => rfl
theorem ld_C_d8 (d8 : Byte) : Statement (.ld_C_d8 d8) := fun _ => rfl
theorem inc_D : Statement .inc_D := fun _ => rfl
theorem dec_D : Statement .dec_D := fun _ => rfl
theorem ld_D_d8 (d8 : Byte) : Statement (.ld_D_d8 d8) := fun _ => rfl
theorem inc_E : Statement .inc_E := fun _ => rfl
theorem dec_E : Statement .dec_E := fun _ => rfl
theorem ld_E_d8 (d8 : Byte) : Statement (.ld_E_d8 d8) := fun _ => rfl
theorem inc_H : Statement .inc_H := fun _ => rfl
theorem dec_H : Statement .dec_H := fun _ => rfl
theorem ld_H_d8 (d8 : Byte) : Statement (.ld_H_d8 d8) := fun _ => rfl
theorem inc_L : Statement .inc_L := fun _ => rfl
theorem dec_L : Statement .dec_L := fun _ => rfl
theorem ld_L_d8 (d8 : Byte) : Statement (.ld_L_d8 d8) := fun _ => rfl
theorem inc_atHL : Statement .inc_atHL := fun _ => rfl
theorem dec_atHL : Statement .dec_atHL := fun _ => rfl
theorem ld_atHL_d8 (d8 : Byte) : Statement (.ld_atHL_d8 d8) := fun _ => rfl
theorem inc_A : Statement .inc_A := fun _ => rfl
theorem dec_A : Statement .dec_A := fun _ => rfl
theorem ld_A_d8 (d8 : Byte) : Statement (.ld_A_d8 d8) := fun _ => rfl
theorem ld_B_B : Statement .ld_B_B := fun _ => rfl
theorem ld_B_C : Statement .ld_B_C := fun _ => rfl
theorem ld_B_D : Statement .ld_B_D := fun _ => rfl
theorem ld_B_E : Statement .ld_B_E := fun _ => rfl
theorem ld_B_H : Statement .ld_B_H := fun _ => rfl
theorem ld_B_L : Statement .ld_B_L := fun _ => rfl
theorem ld_B_atHL : Statement .ld_B_atHL := fun _ => rfl
theorem ld_B_A : Statement .ld_B_A := fun _ => rfl
theorem ld_C_B : Statement .ld_C_B := fun _ => rfl
theorem ld_C_C : Statement .ld_C_C := fun _ => rfl
theorem ld_C_D : Statement .ld_C_D := fun _ => rfl
theorem ld_C_E : Statement .ld_C_E := fun _ => rfl
theorem ld_C_H : Statement .ld_C_H := fun _ => rfl
theorem ld_C_L : Statement .ld_C_L := fun _ => rfl
theorem ld_C_atHL : Statement .ld_C_atHL := fun _ => rfl
theorem ld_C_A : Statement .ld_C_A := fun _ => rfl
theorem ld_D_B : Statement .ld_D_B := fun _ => rfl
theorem ld_D_C : Statement .ld_D_C := fun _ => rfl
theorem ld_D_D : Statement .ld_D_D := fun _ => rfl
theorem ld_D_E : Statement .ld_D_E := fun _ => rfl
theorem ld_D_H : Statement .ld_D_H := fun _ => rfl
theorem ld_D_L : Statement .ld_D_L := fun _ => rfl
theorem ld_D_atHL : Statement .ld_D_atHL := fun _ => rfl
theorem ld_D_A : Statement .ld_D_A := fun _ => rfl
theorem ld_E_B : Statement .ld_E_B := fun _ => rfl
theorem ld_E_C : Statement .ld_E_C := fun _ => rfl
theorem ld_E_D : Statement .ld_E_D := fun _ => rfl
theorem ld_E_E : Statement .ld_E_E := fun _ => rfl
theorem ld_E_H : Statement .ld_E_H := fun _ => rfl
theorem ld_E_L : Statement .ld_E_L := fun _ => rfl
theorem ld_E_atHL : Statement .ld_E_atHL := fun _ => rfl
theorem ld_E_A : Statement .ld_E_A := fun _ => rfl
theorem ld_H_B : Statement .ld_H_B := fun _ => rfl
theorem ld_H_C : Statement .ld_H_C := fun _ => rfl
theorem ld_H_D : Statement .ld_H_D := fun _ => rfl
theorem ld_H_E : Statement .ld_H_E := fun _ => rfl
theorem ld_H_H : Statement .ld_H_H := fun _ => rfl
theorem ld_H_L : Statement .ld_H_L := fun _ => rfl
theorem ld_H_atHL : Statement .ld_H_atHL := fun _ => rfl
theorem ld_H_A : Statement .ld_H_A := fun _ => rfl
theorem ld_L_B : Statement .ld_L_B := fun _ => rfl
theorem ld_L_C : Statement .ld_L_C := fun _ => rfl
theorem ld_L_D : Statement .ld_L_D := fun _ => rfl
theorem ld_L_E : Statement .ld_L_E := fun _ => rfl
theorem ld_L_H : Statement .ld_L_H := fun _ => rfl
theorem ld_L_L : Statement .ld_L_L := fun _ => rfl
theorem ld_L_atHL : Statement .ld_L_atHL := fun _ => rfl
theorem ld_L_A : Statement .ld_L_A := fun _ => rfl
theorem ld_atHL_B : Statement .ld_atHL_B := fun _ => rfl
theorem ld_atHL_C : Statement .ld_atHL_C := fun _ => rfl
theorem ld_atHL_D : Statement .ld_atHL_D := fun _ => rfl
theorem ld_atHL_E : Statement .ld_atHL_E := fun _ => rfl
theorem ld_atHL_H : Statement .ld_atHL_H := fun _ => rfl
theorem ld_atHL_L : Statement .ld_atHL_L := fun _ => rfl
theorem ld_atHL_A : Statement .ld_atHL_A := fun _ => rfl
theorem ld_A_B : Statement .ld_A_B := fun _ => rfl
theorem ld_A_C : Statement .ld_A_C := fun _ => rfl
theorem ld_A_D : Statement .ld_A_D := fun _ => rfl
theorem ld_A_E : Statement .ld_A_E := fun _ => rfl
theorem ld_A_H : Statement .ld_A_H := fun _ => rfl
theorem ld_A_L : Statement .ld_A_L := fun _ => rfl
theorem ld_A_atHL : Statement .ld_A_atHL := fun _ => rfl
theorem ld_A_A : Statement .ld_A_A := fun _ => rfl
theorem add_A_B : Statement .add_A_B := fun _ => rfl
theorem add_A_C : Statement .add_A_C := fun _ => rfl
theorem add_A_D : Statement .add_A_D := fun _ => rfl
theorem add_A_E : Statement .add_A_E := fun _ => rfl
theorem add_A_H : Statement .add_A_H := fun _ => rfl
theorem add_A_L : Statement .add_A_L := fun _ => rfl
theorem add_A_atHL : Statement .add_A_atHL := fun _ => rfl
theorem add_A_A : Statement .add_A_A := fun _ => rfl
theorem adc_A_B : Statement .adc_A_B := fun _ => rfl
theorem adc_A_C : Statement .adc_A_C := fun _ => rfl
theorem adc_A_D : Statement .adc_A_D := fun _ => rfl
theorem adc_A_E : Statement .adc_A_E := fun _ => rfl
theorem adc_A_H : Statement .adc_A_H := fun _ => rfl
theorem adc_A_L : Statement .adc_A_L := fun _ => rfl
theorem adc_A_atHL : Statement .adc_A_atHL := fun _ => rfl
theorem adc_A_A : Statement .adc_A_A := fun _ => rfl
theorem sub_A_B : Statement .sub_A_B := fun _ => rfl
theorem sub_A_C : Statement .sub_A_C := fun _ => rfl
theorem sub_A_D : Statement .sub_A_D := fun _ => rfl
theorem sub_A_E : Statement .sub_A_E := fun _ => rfl
theorem sub_A_H : Statement .sub_A_H := fun _ => rfl
theorem sub_A_L : Statement .sub_A_L := fun _ => rfl
theorem sub_A_atHL : Statement .sub_A_atHL := fun _ => rfl
theorem sub_A_A : Statement .sub_A_A := fun _ => rfl
theorem sbc_A_B : Statement .sbc_A_B := fun _ => rfl
theorem sbc_A_C : Statement .sbc_A_C := fun _ => rfl
theorem sbc_A_D : Statement .sbc_A_D := fun _ => rfl
theorem sbc_A_E : Statement .sbc_A_E := fun _ => rfl
theorem sbc_A_H : Statement .sbc_A_H := fun _ => rfl
theorem sbc_A_L : Statement .sbc_A_L := fun _ => rfl
theorem sbc_A_atHL : Statement .sbc_A_atHL := fun _ => rfl
theorem sbc_A_A : Statement .sbc_A_A := fun _ => rfl
theorem and_A_B : Statement .and_A_B := fun _ => rfl
theorem and_A_C : Statement .and_A_C := fun _ => rfl
theorem and_A_D : Statement .and_A_D := fun _ => rfl
theorem and_A_E : Statement .and_A_E := fun _ => rfl
theorem and_A_H : Statement .and_A_H := fun _ => rfl
theorem and_A_L : Statement .and_A_L := fun _ => rfl
theorem and_A_atHL : Statement .and_A_atHL := fun _ => rfl
theorem and_A_A : Statement .and_A_A := fun _ => rfl
theorem xor_A_B : Statement .xor_A_B := fun _ => rfl
theorem xor_A_C : Statement .xor_A_C := fun _ => rfl
theorem xor_A_D : Statement .xor_A_D := fun _ => rfl
theorem xor_A_E : Statement .xor_A_E := fun _ => rfl
theorem xor_A_H : Statement .xor_A_H := fun _ => rfl
theorem xor_A_L : Statement .xor_A_L := fun _ => rfl
theorem xor_A_atHL : Statement .xor_A_atHL := fun _ => rfl
theorem xor_A_A : Statement .xor_A_A := fun _ => rfl
theorem or_A_B : Statement .or_A_B := fun _ => rfl
theorem or_A_C : Statement .or_A_C := fun _ => rfl
theorem or_A_D : Statement .or_A_D := fun _ => rfl
theorem or_A_E : Statement .or_A_E := fun _ => rfl
theorem or_A_H : Statement .or_A_H := fun _ => rfl
theorem or_A_L : Statement .or_A_L := fun _ => rfl
theorem or_A_atHL : Statement .or_A_atHL := fun _ => rfl
theorem or_A_A : Statement .or_A_A := fun _ => rfl
theorem cp_A_B : Statement .cp_A_B := fun _ => rfl
theorem cp_A_C : Statement .cp_A_C := fun _ => rfl
theorem cp_A_D : Statement .cp_A_D := fun _ => rfl
theorem cp_A_E : Statement .cp_A_E := fun _ => rfl
theorem cp_A_H : Statement .cp_A_H := fun _ => rfl
theorem cp_A_L : Statement .cp_A_L := fun _ => rfl
theorem cp_A_atHL : Statement .cp_A_atHL := fun _ => rfl
theorem cp_A_A : Statement .cp_A_A := fun _ => rfl
theorem add_A_d8 (d8 : Byte) : Statement (.add_A_d8 d8) := fun _ => rfl
theorem adc_A_d8 (d8 : Byte) : Statement (.adc_A_d8 d8) := fun _ => rfl
theorem sub_A_d8 (d8 : Byte) : Statement (.sub_A_d8 d8) := fun _ => rfl
theorem sbc_A_d8 (d8 : Byte) : Statement (.sbc_A_d8 d8) := fun _ => rfl
theorem and_A_d8 (d8 : Byte) : Statement (.and_A_d8 d8) := fun _ => rfl
theorem xor_A_d8 (d8 : Byte) : Statement (.xor_A_d8 d8) := fun _ => rfl
theorem or_A_d8 (d8 : Byte) : Statement (.or_A_d8 d8) := fun _ => rfl
theorem cp_A_d8 (d8 : Byte) : Statement (.cp_A_d8 d8) := fun _ => rfl

end Sys2Proof.Laws.DecodeEncode
end

