-- ==== Sys2Proof/Laws/Step.lean ====
section
/-! SUPPORT. What a step can do, said once. -/
namespace Sys2Proof.Machine

/-- R153: a faulted core takes no step. -/
theorem step_of_fault {s : State} {u : UndefinedOpcode} (h : s.fault = some u) : step s = .next s := by
  simp [step, h]

/-- A fetch supplies two bytes, so the decoder's only refusal is an undefined opcode. -/
theorem decode_fetchBytes_error {s : State} {err : DecodeError} (h : decode s.fetchBytes = .error err) :
    err = .undefinedOpcode (s.read8 s.pc) := by
  simp only [State.fetchBytes, decode] at h
  split at h
  · split at h <;> simp_all
  · split at h <;> simp_all

/-- Inversion of a step: the core was faulted and stays as it is; or the byte at `PC` is undefined and only
`opcode` and `fault` change; or the decoded instruction ran. -/
theorem step_cases {s t : State} (h : step s = .next t) :
    (∃ u, s.fault = some u ∧ t = s) ∨
    (s.fault = none ∧ decode s.fetchBytes = .error (.undefinedOpcode (s.read8 s.pc)) ∧
      t = (s.latchOpcode (s.read8 s.pc)).raiseUndefinedOpcode (s.read8 s.pc) s.pc) ∨
    (∃ i rest, s.fault = none ∧ decode s.fetchBytes = .ok (i, rest) ∧
      t = shapeEffect (s.latchOpcode (s.read8 s.pc)) i.asm) := by
  cases hf : s.fault with
  | some u =>
    rw [step_of_fault hf] at h
    cases h
    exact .inl ⟨u, rfl, rfl⟩
  | none =>
    cases hd : decode s.fetchBytes with
    | error err =>
      have he := decode_fetchBytes_error hd
      simp only [step, hf, hd] at h
      cases h
      exact .inr (.inl ⟨rfl, by rw [he], rfl⟩)
    | ok r =>
      obtain ⟨i, rest⟩ := r
      simp only [step, hf, hd] at h
      exact .inr (.inr ⟨i, rest, rfl, rfl, exec_next h⟩)

/-- The step of a state whose bytes at `PC` decode (R80 to R83). -/
theorem step_of_decode {s : State} {i : Instr} {rest : List Byte} (hf : s.fault = none)
    (hd : decode s.fetchBytes = .ok (i, rest)) :
    step s = exec i (s.latchOpcode (s.read8 s.pc)) := by
  simp [step, hf, hd]

/-- The step of a state whose byte at `PC` is undefined (R152). -/
theorem step_of_undefined {s : State} {err : DecodeError} (hf : s.fault = none)
    (hd : decode s.fetchBytes = .error err) :
    step s = .next ((s.latchOpcode (s.read8 s.pc)).raiseUndefinedOpcode (s.read8 s.pc) s.pc) := by
  simp only [step, hf, hd]

/-- R80: every step answers a next state. -/
theorem step_total (s : State) : ∃ t, step s = .next t := by
  cases hf : s.fault with
  | some u => exact ⟨s, step_of_fault hf⟩
  | none =>
    cases hd : decode s.fetchBytes with
    | error err => exact ⟨_, step_of_undefined hf hd⟩
    | ok r => exact ⟨_, (step_of_decode hf hd).trans (exec_eq_shapeEffect _ _)⟩

/-- A property kept by every step holds in every state that follows. -/
theorem Follows.induct {P : State → Prop} {s t : State} (hst : Follows s t) (h0 : P s)
    (hstep : ∀ {u v : State}, P u → step u = .next v → P v) : P t := by
  induction hst with
  | here => exact h0
  | more _ hs ih => exact hstep ih hs

end Sys2Proof.Machine
end

