-- ==== Sys2Proof/Laws/Reset.lean ====
section
/-! SUPPORT. Reset: the image's bytes, its canonical form, and the standard parameters. -/
namespace Sys2Proof.Machine

/-- R172: what an address holds after reset. -/
theorem read_resetImage (p : ResetParams) (a : Word) :
    Memory.read (resetImage p) a.toNat = resetByte p a.toNat :=
  Memory.read_tabulate _ 0 memBytes (by omega) (Nat.zero_le _) (by have := a.isLt; omega)

theorem wf_resetImage (p : ResetParams) : Memory.wf (resetImage p) = true :=
  Memory.wfFrom_tabulate _ 0 memBytes (by omega)

/-- What reset can answer. -/
theorem resetWith_eq_some {p : ResetParams} {s : State} (h : resetWith p = some s) :
    p.wf = true ∧ s.mem = resetImage p ∧ s.fault = none ∧ s.pc = p.resetPc ∧ s.sp = p.resetSp ∧
      s.params = ⟨p.flagPos, p.cycMem2⟩ := by
  unfold resetWith at h
  split at h
  · cases h
    exact ⟨‹_›, rfl, rfl, rfl, rfl, rfl⟩
  · cases h

theorem resetByte_standard (a : Nat) : resetByte .standard a = unwrittenByte := by
  unfold resetByte
  split
  · simp [ResetParams.standard, List.getD, List.getElem?_replicate, unwrittenByte]
    split <;> rfl
  · split <;> simp [ResetParams.standard, unwrittenByte]

/-- `State.reset` is reset at the standard parameters. -/
theorem resetWith_standard : resetWith .standard = some State.reset := by
  have hm : resetImage .standard = [] := Memory.tabulate_unwritten _ _ _ resetByte_standard
  have hw : ResetParams.wf .standard = true := by
    simp [ResetParams.wf, ResetParams.standard]
  simp only [resetWith, hw, if_true, hm]
  rfl

end Sys2Proof.Machine
end

