-- ==== Sys2Proof/Tests/Slice0.lean ====
section
/-! SUPPORT. The model's own tests: ill-formed terms, a word for every constructor, single steps, and a witness
for every obligation with hypotheses.  The expected results come from the spec (the encodings of R91 to R139,
the vectors of `spec/95_test_vectors.md`), never from the model. -/
namespace Sys2Proof.Tests
open Sys2Proof.Machine Sys2Proof.Slice0

/-! ### What may not be written down (R72, R68, R173) -/

theorem test_wf_refuses_ld_atHL_atHL : Asm.wf (.ld .atHL .atHL) = false := by decide
theorem test_wf_refuses_literal_destination :
    Asm.wf (.ld (.d8 0x12#8) (.reg .b)) = false ∧ Asm.wf (.ld (.d8 0x12#8) .atHL) = false ∧
    Asm.wf (.ld (.d8 0x12#8) (.d8 0x34#8)) = false := by decide
theorem test_wf_refuses_inc_literal : Asm.wf (.inc (.d8 0x12#8)) = false := by decide
theorem test_wf_refuses_dec_literal : Asm.wf (.dec (.d8 0x12#8)) = false := by decide
theorem test_wf_admits :
    Asm.wf (.ld (.reg .b) .atHL) = true ∧ Asm.wf (.ld .atHL (.d8 0xFF#8)) = true ∧
    Asm.wf (.inc .atHL) = true ∧ Asm.wf (.alu .cp (.d8 0x00#8)) = true ∧ Instr.wf .cp_A_A = true := by decide
theorem test_wf_refuses_short_boot_image :
    ({ bootImage := List.replicate 255 0x40#8 } : ResetParams).wf = false ∧
    resetWith { bootImage := List.replicate 255 0x40#8 } = none := by
  simp [-List.reduceReplicate, resetWith, ResetParams.wf, bootBytes]
theorem test_wf_refuses_long_boot_image :
    ({ bootImage := List.replicate 257 0x40#8 } : ResetParams).wf = false := by
  simp [-List.reduceReplicate, ResetParams.wf, bootBytes]
theorem test_wf_refuses_long_cartridge :
    ({ cartImage := List.replicate 32769 0x40#8 } : ResetParams).wf = false := by
  simp [-List.reduceReplicate, ResetParams.wf, romBytes]
theorem test_wf_admits_full_cartridge :
    ({ cartImage := List.replicate 32768 0x40#8 } : ResetParams).wf = true := by
  simp [-List.reduceReplicate, ResetParams.wf, romBytes, bootBytes]

/-! ### Every constructor, from the word its rule spells (`xx yyy zzz`, then `d8 = 0xA5`) -/

theorem test_decode_row_0 :
    decode [0b00_000_100#8] = .ok (.inc_B, []) ∧
    decode [0b00_000_101#8] = .ok (.dec_B, []) ∧
    decode [0b00_000_110#8, 0xA5#8] = .ok (.ld_B_d8 0xA5#8, []) ∧
    decode [0b00_001_100#8] = .ok (.inc_C, []) ∧
    decode [0b00_001_101#8] = .ok (.dec_C, []) ∧
    decode [0b00_001_110#8, 0xA5#8] = .ok (.ld_C_d8 0xA5#8, []) :=
  ⟨rfl, rfl, rfl, rfl, rfl, rfl⟩

theorem test_decode_row_1 :
    decode [0b00_010_100#8] = .ok (.inc_D, []) ∧
    decode [0b00_010_101#8] = .ok (.dec_D, []) ∧
    decode [0b00_010_110#8, 0xA5#8] = .ok (.ld_D_d8 0xA5#8, []) ∧
    decode [0b00_011_100#8] = .ok (.inc_E, []) ∧
    decode [0b00_011_101#8] = .ok (.dec_E, []) ∧
    decode [0b00_011_110#8, 0xA5#8] = .ok (.ld_E_d8 0xA5#8, []) :=
  ⟨rfl, rfl, rfl, rfl, rfl, rfl⟩

theorem test_decode_row_2 :
    decode [0b00_100_100#8] = .ok (.inc_H, []) ∧
    decode [0b00_100_101#8] = .ok (.dec_H, []) ∧
    decode [0b00_100_110#8, 0xA5#8] = .ok (.ld_H_d8 0xA5#8, []) ∧
    decode [0b00_101_100#8] = .ok (.inc_L, []) ∧
    decode [0b00_101_101#8] = .ok (.dec_L, []) ∧
    decode [0b00_101_110#8, 0xA5#8] = .ok (.ld_L_d8 0xA5#8, []) :=
  ⟨rfl, rfl, rfl, rfl, rfl, rfl⟩

theorem test_decode_row_3 :
    decode [0b00_110_100#8] = .ok (.inc_atHL, []) ∧
    decode [0b00_110_101#8] = .ok (.dec_atHL, []) ∧
    decode [0b00_110_110#8, 0xA5#8] = .ok (.ld_atHL_d8 0xA5#8, []) ∧
    decode [0b00_111_100#8] = .ok (.inc_A, []) ∧
    decode [0b00_111_101#8] = .ok (.dec_A, []) ∧
    decode [0b00_111_110#8, 0xA5#8] = .ok (.ld_A_d8 0xA5#8, []) :=
  ⟨rfl, rfl, rfl, rfl, rfl, rfl⟩

theorem test_decode_row_4 :
    decode [0b01_000_000#8] = .ok (.ld_B_B, []) ∧
    decode [0b01_000_001#8] = .ok (.ld_B_C, []) ∧
    decode [0b01_000_010#8] = .ok (.ld_B_D, []) ∧
    decode [0b01_000_011#8] = .ok (.ld_B_E, []) ∧
    decode [0b01_000_100#8] = .ok (.ld_B_H, []) ∧
    decode [0b01_000_101#8] = .ok (.ld_B_L, []) ∧
    decode [0b01_000_110#8] = .ok (.ld_B_atHL, []) ∧
    decode [0b01_000_111#8] = .ok (.ld_B_A, []) ∧
    decode [0b01_001_000#8] = .ok (.ld_C_B, []) ∧
    decode [0b01_001_001#8] = .ok (.ld_C_C, []) ∧
    decode [0b01_001_010#8] = .ok (.ld_C_D, []) ∧
    decode [0b01_001_011#8] = .ok (.ld_C_E, []) ∧
    decode [0b01_001_100#8] = .ok (.ld_C_H, []) ∧
    decode [0b01_001_101#8] = .ok (.ld_C_L, []) ∧
    decode [0b01_001_110#8] = .ok (.ld_C_atHL, []) ∧
    decode [0b01_001_111#8] = .ok (.ld_C_A, []) :=
  ⟨rfl, rfl, rfl, rfl, rfl, rfl, rfl, rfl, rfl, rfl, rfl, rfl, rfl, rfl, rfl, rfl⟩

theorem test_decode_row_5 :
    decode [0b01_010_000#8] = .ok (.ld_D_B, []) ∧
    decode [0b01_010_001#8] = .ok (.ld_D_C, []) ∧
    decode [0b01_010_010#8] = .ok (.ld_D_D, []) ∧
    decode [0b01_010_011#8] = .ok (.ld_D_E, []) ∧
    decode [0b01_010_100#8] = .ok (.ld_D_H, []) ∧
    decode [0b01_010_101#8] = .ok (.ld_D_L, []) ∧
    decode [0b01_010_110#8] = .ok (.ld_D_atHL, []) ∧
    decode [0b01_010_111#8] = .ok (.ld_D_A, []) ∧
    decode [0b01_011_000#8] = .ok (.ld_E_B, []) ∧
    decode [0b01_011_001#8] = .ok (.ld_E_C, []) ∧
    decode [0b01_011_010#8] = .ok (.ld_E_D, []) ∧
    decode [0b01_011_011#8] = .ok (.ld_E_E, []) ∧
    decode [0b01_011_100#8] = .ok (.ld_E_H, []) ∧
    decode [0b01_011_101#8] = .ok (.ld_E_L, []) ∧
    decode [0b01_011_110#8] = .ok (.ld_E_atHL, []) ∧
    decode [0b01_011_111#8] = .ok (.ld_E_A, []) :=
  ⟨rfl, rfl, rfl, rfl, rfl, rfl, rfl, rfl, rfl, rfl, rfl, rfl, rfl, rfl, rfl, rfl⟩

theorem test_decode_row_6 :
    decode [0b01_100_000#8] = .ok (.ld_H_B, []) ∧
    decode [0b01_100_001#8] = .ok (.ld_H_C, []) ∧
    decode [0b01_100_010#8] = .ok (.ld_H_D, []) ∧
    decode [0b01_100_011#8] = .ok (.ld_H_E, []) ∧
    decode [0b01_100_100#8] = .ok (.ld_H_H, []) ∧
    decode [0b01_100_101#8] = .ok (.ld_H_L, []) ∧
    decode [0b01_100_110#8] = .ok (.ld_H_atHL, []) ∧
    decode [0b01_100_111#8] = .ok (.ld_H_A, []) ∧
    decode [0b01_101_000#8] = .ok (.ld_L_B, []) ∧
    decode [0b01_101_001#8] = .ok (.ld_L_C, []) ∧
    decode [0b01_101_010#8] = .ok (.ld_L_D, []) ∧
    decode [0b01_101_011#8] = .ok (.ld_L_E, []) ∧
    decode [0b01_101_100#8] = .ok (.ld_L_H, []) ∧
    decode [0b01_101_101#8] = .ok (.ld_L_L, []) ∧
    decode [0b01_101_110#8] = .ok (.ld_L_atHL, []) ∧
    decode [0b01_101_111#8] = .ok (.ld_L_A, []) :=
  ⟨rfl, rfl, rfl, rfl, rfl, rfl, rfl, rfl, rfl, rfl, rfl, rfl, rfl, rfl, rfl, rfl⟩

theorem test_decode_row_7 :
    decode [0b01_110_000#8] = .ok (.ld_atHL_B, []) ∧
    decode [0b01_110_001#8] = .ok (.ld_atHL_C, []) ∧
    decode [0b01_110_010#8] = .ok (.ld_atHL_D, []) ∧
    decode [0b01_110_011#8] = .ok (.ld_atHL_E, []) ∧
    decode [0b01_110_100#8] = .ok (.ld_atHL_H, []) ∧
    decode [0b01_110_101#8] = .ok (.ld_atHL_L, []) ∧
    decode [0b01_110_111#8] = .ok (.ld_atHL_A, []) ∧
    decode [0b01_111_000#8] = .ok (.ld_A_B, []) ∧
    decode [0b01_111_001#8] = .ok (.ld_A_C, []) ∧
    decode [0b01_111_010#8] = .ok (.ld_A_D, []) ∧
    decode [0b01_111_011#8] = .ok (.ld_A_E, []) ∧
    decode [0b01_111_100#8] = .ok (.ld_A_H, []) ∧
    decode [0b01_111_101#8] = .ok (.ld_A_L, []) ∧
    decode [0b01_111_110#8] = .ok (.ld_A_atHL, []) ∧
    decode [0b01_111_111#8] = .ok (.ld_A_A, []) :=
  ⟨rfl, rfl, rfl, rfl, rfl, rfl, rfl, rfl, rfl, rfl, rfl, rfl, rfl, rfl, rfl⟩

theorem test_decode_row_8 :
    decode [0b10_000_000#8] = .ok (.add_A_B, []) ∧
    decode [0b10_000_001#8] = .ok (.add_A_C, []) ∧
    decode [0b10_000_010#8] = .ok (.add_A_D, []) ∧
    decode [0b10_000_011#8] = .ok (.add_A_E, []) ∧
    decode [0b10_000_100#8] = .ok (.add_A_H, []) ∧
    decode [0b10_000_101#8] = .ok (.add_A_L, []) ∧
    decode [0b10_000_110#8] = .ok (.add_A_atHL, []) ∧
    decode [0b10_000_111#8] = .ok (.add_A_A, []) ∧
    decode [0b10_001_000#8] = .ok (.adc_A_B, []) ∧
    decode [0b10_001_001#8] = .ok (.adc_A_C, []) ∧
    decode [0b10_001_010#8] = .ok (.adc_A_D, []) ∧
    decode [0b10_001_011#8] = .ok (.adc_A_E, []) ∧
    decode [0b10_001_100#8] = .ok (.adc_A_H, []) ∧
    decode [0b10_001_101#8] = .ok (.adc_A_L, []) ∧
    decode [0b10_001_110#8] = .ok (.adc_A_atHL, []) ∧
    decode [0b10_001_111#8] = .ok (.adc_A_A, []) :=
  ⟨rfl, rfl, rfl, rfl, rfl, rfl, rfl, rfl, rfl, rfl, rfl, rfl, rfl, rfl, rfl, rfl⟩

theorem test_decode_row_9 :
    decode [0b10_010_000#8] = .ok (.sub_A_B, []) ∧
    decode [0b10_010_001#8] = .ok (.sub_A_C, []) ∧
    decode [0b10_010_010#8] = .ok (.sub_A_D, []) ∧
    decode [0b10_010_011#8] = .ok (.sub_A_E, []) ∧
    decode [0b10_010_100#8] = .ok (.sub_A_H, []) ∧
    decode [0b10_010_101#8] = .ok (.sub_A_L, []) ∧
    decode [0b10_010_110#8] = .ok (.sub_A_atHL, []) ∧
    decode [0b10_010_111#8] = .ok (.sub_A_A, []) ∧
    decode [0b10_011_000#8] = .ok (.sbc_A_B, []) ∧
    decode [0b10_011_001#8] = .ok (.sbc_A_C, []) ∧
    decode [0b10_011_010#8] = .ok (.sbc_A_D, []) ∧
    decode [0b10_011_011#8] = .ok (.sbc_A_E, []) ∧
    decode [0b10_011_100#8] = .ok (.sbc_A_H, []) ∧
    decode [0b10_011_101#8] = .ok (.sbc_A_L, []) ∧
    decode [0b10_011_110#8] = .ok (.sbc_A_atHL, []) ∧
    decode [0b10_011_111#8] = .ok (.sbc_A_A, []) :=
  ⟨rfl, rfl, rfl, rfl, rfl, rfl, rfl, rfl, rfl, rfl, rfl, rfl, rfl, rfl, rfl, rfl⟩

theorem test_decode_row_A :
    decode [0b10_100_000#8] = .ok (.and_A_B, []) ∧
    decode [0b10_100_001#8] = .ok (.and_A_C, []) ∧
    decode [0b10_100_010#8] = .ok (.and_A_D, []) ∧
    decode [0b10_100_011#8] = .ok (.and_A_E, []) ∧
    decode [0b10_100_100#8] = .ok (.and_A_H, []) ∧
    decode [0b10_100_101#8] = .ok (.and_A_L, []) ∧
    decode [0b10_100_110#8] = .ok (.and_A_atHL, []) ∧
    decode [0b10_100_111#8] = .ok (.and_A_A, []) ∧
    decode [0b10_101_000#8] = .ok (.xor_A_B, []) ∧
    decode [0b10_101_001#8] = .ok (.xor_A_C, []) ∧
    decode [0b10_101_010#8] = .ok (.xor_A_D, []) ∧
    decode [0b10_101_011#8] = .ok (.xor_A_E, []) ∧
    decode [0b10_101_100#8] = .ok (.xor_A_H, []) ∧
    decode [0b10_101_101#8] = .ok (.xor_A_L, []) ∧
    decode [0b10_101_110#8] = .ok (.xor_A_atHL, []) ∧
    decode [0b10_101_111#8] = .ok (.xor_A_A, []) :=
  ⟨rfl, rfl, rfl, rfl, rfl, rfl, rfl, rfl, rfl, rfl, rfl, rfl, rfl, rfl, rfl, rfl⟩

theorem test_decode_row_B :
    decode [0b10_110_000#8] = .ok (.or_A_B, []) ∧
    decode [0b10_110_001#8] = .ok (.or_A_C, []) ∧
    decode [0b10_110_010#8] = .ok (.or_A_D, []) ∧
    decode [0b10_110_011#8] = .ok (.or_A_E, []) ∧
    decode [0b10_110_100#8] = .ok (.or_A_H, []) ∧
    decode [0b10_110_101#8] = .ok (.or_A_L, []) ∧
    decode [0b10_110_110#8] = .ok (.or_A_atHL, []) ∧
    decode [0b10_110_111#8] = .ok (.or_A_A, []) ∧
    decode [0b10_111_000#8] = .ok (.cp_A_B, []) ∧
    decode [0b10_111_001#8] = .ok (.cp_A_C, []) ∧
    decode [0b10_111_010#8] = .ok (.cp_A_D, []) ∧
    decode [0b10_111_011#8] = .ok (.cp_A_E, []) ∧
    decode [0b10_111_100#8] = .ok (.cp_A_H, []) ∧
    decode [0b10_111_101#8] = .ok (.cp_A_L, []) ∧
    decode [0b10_111_110#8] = .ok (.cp_A_atHL, []) ∧
    decode [0b10_111_111#8] = .ok (.cp_A_A, []) :=
  ⟨rfl, rfl, rfl, rfl, rfl, rfl, rfl, rfl, rfl, rfl, rfl, rfl, rfl, rfl, rfl, rfl⟩

theorem test_decode_rows_C_to_F :
    decode [0b11_000_110#8, 0xA5#8] = .ok (.add_A_d8 0xA5#8, []) ∧
    decode [0b11_001_110#8, 0xA5#8] = .ok (.adc_A_d8 0xA5#8, []) ∧
    decode [0b11_010_110#8, 0xA5#8] = .ok (.sub_A_d8 0xA5#8, []) ∧
    decode [0b11_011_110#8, 0xA5#8] = .ok (.sbc_A_d8 0xA5#8, []) ∧
    decode [0b11_100_110#8, 0xA5#8] = .ok (.and_A_d8 0xA5#8, []) ∧
    decode [0b11_101_110#8, 0xA5#8] = .ok (.xor_A_d8 0xA5#8, []) ∧
    decode [0b11_110_110#8, 0xA5#8] = .ok (.or_A_d8 0xA5#8, []) ∧
    decode [0b11_111_110#8, 0xA5#8] = .ok (.cp_A_d8 0xA5#8, []) :=
  ⟨rfl, rfl, rfl, rfl, rfl, rfl, rfl, rfl⟩

/-- R68, R60: undefined values, a missing immediate, no byte at all. -/
theorem test_decode_refuses :
    decode [0x00#8, 0x12#8] = .error (.undefinedOpcode 0x00#8) ∧
    decode [0x76#8] = .error (.undefinedOpcode 0x76#8) ∧
    decode [0xCB#8, 0x37#8] = .error (.undefinedOpcode 0xCB#8) ∧
    decode [0xC3#8, 0x00#8] = .error (.undefinedOpcode 0xC3#8) ∧
    decode [0x3E#8] = .error (.missingImmediate 0x3E#8) ∧ decode [] = .error .noOpcode := by decide

/-- Table words: the opcode byte in bits 7..0, the immediate in bits 15..8; bits above `nbits` are 0. -/
theorem test_decodeTableWord :
    decodeTableWord 8 0x41 = some .ld_B_C ∧ decodeTableWord 16 0x7F3E = some (.ld_A_d8 0x7F#8) ∧
    decodeTableWord 8 0x7F3E = some (.ld_A_d8 0x00#8) ∧ decodeTableWord 8 0xD3 = none := by decide

/-- R72: the three spellings of the source, and one of each other kind. -/
theorem test_text :
    Instr.and_A_atHL.asm.text = "AND A,(HL)" ∧ Instr.sbc_A_A.asm.text = "SBC A,A" ∧
    Instr.cp_A_B.asm.text = "CP A,B" ∧ (Instr.ld_atHL_d8 0x3C#8).asm.text = "LD (HL),0x3C" ∧
    Instr.dec_atHL.asm.text = "DEC (HL)" := by decide

/-! ### Single steps (`spec/95_test_vectors.md` part 2; each test names its vectors) -/

/-- The state after one step. -/
def after (s : State) : Option State :=
  match step s with
  | .next t => some t
  | .fault _ => none
  | .refused _ => none

/-- The default reset state with `bytes` at the addresses from 0 on. -/
def starting (bytes : List Byte) : State :=
  { State.reset with mem := Memory.tabulate (fun a => bytes.getD a 0x00#8) 0 bytes.length }

/-- What a vector lists: the halves `A F B C D E H L`, `PC`, `cycle_count`, `opcode`, `fault`, one memory byte. -/
structure View where
  halves : List Byte
  pc : Word
  cycles : Word
  opcode : Byte
  fault : Option UndefinedOpcode
  cell : Byte
  deriving DecidableEq, Repr

/-- What a vector lists of the state after one step, with the byte at `a`. -/
def view (a : Word) (s : State) : Option View :=
  (after s).map fun t => ⟨[t.a, t.f, t.b, t.c, t.d, t.e, t.h, t.l], t.pc, t.cycleCount, t.opcode, t.fault, t.read8 a⟩

/-- VL1: source and destination in the right order. -/
theorem test_ld_B_C :
    view 0x0000#16 ({ starting [0x41#8] with b := 0x12#8, c := 0x34#8 }) =
      some ⟨[0x00#8, 0x00#8, 0x34#8, 0x34#8, 0x00#8, 0x00#8, 0x00#8, 0x00#8], 0x0001#16, 4#16, 0x41#8, none, 0x41#8⟩ := by decide

/-- VL8: the address is the old `HL`. -/
theorem test_ld_H_atHL :
    view 0xC010#16 (({ starting [0x66#8] with h := 0xC0#8, l := 0x10#8 } : State).write8 0xC010#16 0x5A#8) =
      some ⟨[0x00#8, 0x00#8, 0x00#8, 0x00#8, 0x00#8, 0x00#8, 0x5A#8, 0x10#8], 0x0001#16, 8#16, 0x66#8, none, 0x5A#8⟩ := by decide

/-- VL14: a store of half of its own address. -/
theorem test_ld_atHL_L :
    view 0xC010#16 ({ starting [0x75#8] with h := 0xC0#8, l := 0x10#8 }) =
      some ⟨[0x00#8, 0x00#8, 0x00#8, 0x00#8, 0x00#8, 0x00#8, 0xC0#8, 0x10#8], 0x0001#16, 8#16, 0x75#8, none, 0x10#8⟩ := by decide

/-- VL15: a store into the cartridge region lands. -/
theorem test_ld_atHL_A_cartridge :
    view 0x4000#16 ({ starting [0x77#8] with a := 0xEE#8, h := 0x40#8, l := 0x00#8 }) =
      some ⟨[0xEE#8, 0x00#8, 0x00#8, 0x00#8, 0x00#8, 0x00#8, 0x40#8, 0x00#8], 0x0001#16, 8#16, 0x77#8, none, 0xEE#8⟩ := by decide

/-- VL20. -/
theorem test_ld_B_d8_keeps_flags :
    view 0x0000#16 ({ starting [0x06#8, 0x00#8] with f := 0xF0#8, b := 0x55#8 }) =
      some ⟨[0x00#8, 0xF0#8, 0x00#8, 0x00#8, 0x00#8, 0x00#8, 0x00#8, 0x00#8], 0x0002#16, 8#16, 0x06#8, none, 0x06#8⟩ := by decide

/-- VL28: `HL = PC + 1`; the immediate is read before it is overwritten. -/
theorem test_ld_atHL_d8_onto_itself :
    view 0x0001#16 ({ starting [0x36#8, 0x3C#8] with h := 0x00#8, l := 0x01#8 }) =
      some ⟨[0x00#8, 0x00#8, 0x00#8, 0x00#8, 0x00#8, 0x00#8, 0x00#8, 0x01#8], 0x0002#16, 8#16, 0x36#8, none, 0x3C#8⟩ := by decide

/-- VL27: `HL = PC`. -/
theorem test_ld_atHL_d8_over_opcode :
    view 0x0000#16 (starting [0x36#8, 0x3C#8]) =
      some ⟨[0x00#8, 0x00#8, 0x00#8, 0x00#8, 0x00#8, 0x00#8, 0x00#8, 0x00#8], 0x0002#16, 8#16, 0x36#8, none, 0x3C#8⟩ := by decide

/-- VI6: Carry and `F[3:0]` are kept. -/
theorem test_inc_A_keeps_low_bits :
    view 0x0000#16 ({ starting [0x3C#8] with a := 0xFE#8, f := 0xFF#8 }) =
      some ⟨[0xFF#8, 0x1F#8, 0x00#8, 0x00#8, 0x00#8, 0x00#8, 0x00#8, 0x00#8], 0x0001#16, 4#16, 0x3C#8, none, 0x3C#8⟩ := by decide

/-- VI8. -/
theorem test_inc_L_no_carry_into_H :
    view 0x0000#16 ({ starting [0x2C#8] with h := 0xC0#8, l := 0xFF#8 }) =
      some ⟨[0x00#8, 0xA0#8, 0x00#8, 0x00#8, 0x00#8, 0x00#8, 0xC0#8, 0x00#8], 0x0001#16, 4#16, 0x2C#8, none, 0x2C#8⟩ := by decide

/-- VI18. -/
theorem test_inc_atHL_wraps :
    view 0xC000#16 (({ starting [0x34#8] with h := 0xC0#8, l := 0x00#8 } : State).write8 0xC000#16 0xFF#8) =
      some ⟨[0x00#8, 0xA0#8, 0x00#8, 0x00#8, 0x00#8, 0x00#8, 0xC0#8, 0x00#8], 0x0001#16, 8#16, 0x34#8, none, 0x00#8⟩ := by decide

/-- VI12. -/
theorem test_dec_B_wraps :
    view 0x0000#16 ({ starting [0x05#8] with f := 0x10#8, b := 0x00#8 }) =
      some ⟨[0x00#8, 0x70#8, 0xFF#8, 0x00#8, 0x00#8, 0x00#8, 0x00#8, 0x00#8], 0x0001#16, 4#16, 0x05#8, none, 0x05#8⟩ := by decide

/-- VI22. -/
theorem test_dec_atHL :
    view 0xC000#16 (({ starting [0x35#8] with f := 0x10#8, h := 0xC0#8, l := 0x00#8 } : State).write8 0xC000#16 0x10#8) =
      some ⟨[0x00#8, 0x70#8, 0x00#8, 0x00#8, 0x00#8, 0x00#8, 0xC0#8, 0x00#8], 0x0001#16, 8#16, 0x35#8, none, 0x0F#8⟩ := by decide

/-- VA2: Zero and Carry together. -/
theorem test_add_A_B_wraps :
    view 0x0000#16 ({ starting [0x80#8] with a := 0x3A#8, b := 0xC6#8 }) =
      some ⟨[0x00#8, 0xB0#8, 0xC6#8, 0x00#8, 0x00#8, 0x00#8, 0x00#8, 0x00#8], 0x0001#16, 4#16, 0x80#8, none, 0x80#8⟩ := by decide

/-- VA18: operand plus carry-in is 256. -/
theorem test_adc_A_B_operand_256 :
    view 0x0000#16 ({ starting [0x88#8] with a := 0x00#8, f := 0x10#8, b := 0xFF#8 }) =
      some ⟨[0x00#8, 0xB0#8, 0xFF#8, 0x00#8, 0x00#8, 0x00#8, 0x00#8, 0x00#8], 0x0001#16, 4#16, 0x88#8, none, 0x88#8⟩ := by decide

/-- VA30. -/
theorem test_sub_A_E_no_half_borrow :
    view 0x0000#16 ({ starting [0x93#8] with a := 0x3E#8, e := 0x40#8 }) =
      some ⟨[0xFE#8, 0x50#8, 0x00#8, 0x00#8, 0x00#8, 0x40#8, 0x00#8, 0x00#8], 0x0001#16, 4#16, 0x93#8, none, 0x93#8⟩ := by decide

/-- VA37. -/
theorem test_sbc_A_A_carry :
    view 0x0000#16 ({ starting [0x9F#8] with a := 0x80#8, f := 0x10#8 }) =
      some ⟨[0xFF#8, 0x70#8, 0x00#8, 0x00#8, 0x00#8, 0x00#8, 0x00#8, 0x00#8], 0x0001#16, 4#16, 0x9F#8, none, 0x9F#8⟩ := by decide

/-- VA39. -/
theorem test_sbc_A_B_operand_256 :
    view 0x0000#16 ({ starting [0x98#8] with a := 0x00#8, f := 0x10#8, b := 0xFF#8 }) =
      some ⟨[0x00#8, 0xF0#8, 0xFF#8, 0x00#8, 0x00#8, 0x00#8, 0x00#8, 0x00#8], 0x0001#16, 4#16, 0x98#8, none, 0x98#8⟩ := by decide

/-- VA51: `A` is kept. -/
theorem test_cp_A_atHL :
    view 0xC000#16 (({ starting [0xBE#8] with a := 0x3C#8, h := 0xC0#8, l := 0x00#8 } : State).write8 0xC000#16 0x40#8) =
      some ⟨[0x3C#8, 0x50#8, 0x00#8, 0x00#8, 0x00#8, 0x00#8, 0xC0#8, 0x00#8], 0x0001#16, 8#16, 0xBE#8, none, 0x40#8⟩ := by decide

/-- VG4. -/
theorem test_and_A_A_keeps_low_bits :
    view 0x0000#16 ({ starting [0xA7#8] with a := 0x00#8, f := 0x5F#8 }) =
      some ⟨[0x00#8, 0xAF#8, 0x00#8, 0x00#8, 0x00#8, 0x00#8, 0x00#8, 0x00#8], 0x0001#16, 4#16, 0xA7#8, none, 0xA7#8⟩ := by decide

/-- VG5, the source's own scenario (S6). -/
theorem test_and_A_atHL_source_scenario :
    view 0xC000#16 (({ starting [0xA6#8] with a := 0xFE#8, h := 0xC0#8, l := 0x00#8 } : State).write8 0xC000#16 0x01#8) =
      some ⟨[0x00#8, 0xA0#8, 0x00#8, 0x00#8, 0x00#8, 0x00#8, 0xC0#8, 0x00#8], 0x0001#16, 8#16, 0xA6#8, none, 0x01#8⟩ := by decide

/-- VG13. -/
theorem test_xor_A_d8 :
    view 0x0000#16 ({ starting [0xEE#8, 0xFF#8] with a := 0x0F#8 }) =
      some ⟨[0xF0#8, 0x00#8, 0x00#8, 0x00#8, 0x00#8, 0x00#8, 0x00#8, 0x00#8], 0x0002#16, 8#16, 0xEE#8, none, 0xEE#8⟩ := by decide

/-- VG16. -/
theorem test_or_A_B :
    view 0x0000#16 ({ starting [0xB0#8] with a := 0x0F#8, f := 0xF0#8, b := 0xF0#8 }) =
      some ⟨[0xFF#8, 0x00#8, 0xF0#8, 0x00#8, 0x00#8, 0x00#8, 0x00#8, 0x00#8], 0x0001#16, 4#16, 0xB0#8, none, 0xB0#8⟩ := by decide

/-- VL23: `PC` and the immediate wrap. -/
theorem test_ld_A_d8_wraps :
    view 0xFFFF#16 ({ starting [0x99#8] with pc := 0xFFFF#16 }.write8 0xFFFF#16 0x3E#8) =
      some ⟨[0x99#8, 0x00#8, 0x00#8, 0x00#8, 0x00#8, 0x00#8, 0x00#8, 0x00#8], 0x0001#16, 8#16, 0x3E#8, none, 0x3E#8⟩ := by
  decide

/-- VS9: `cycle_count` wraps. -/
theorem test_cycle_count_wraps :
    (after { starting [0x40#8] with cycleCount := 65532#16 }).map State.cycleCount = some 0x0000#16 := by decide

/-- VS1: the first step from reset. -/
theorem test_reset_faults :
    after State.reset = some { State.reset with fault := some ⟨0x00#8, 0x0000#16⟩ } := by decide

/-- VS2: an undefined opcode changes `opcode` and `fault` and nothing else; the step after it changes nothing. -/
theorem test_undefined_0x76 :
    let s := { State.reset with a := 0x12#8, f := 0xF0#8, pc := 0x0150#16, cycleCount := 100#16, mem := [(0x0150, 0x76#8)] }
    let t := { s with opcode := 0x76#8, fault := some ⟨0x76#8, 0x0150#16⟩ }
    after s = some t ∧ after t = some t ∧ stepTransactions s = [.read 0x0150#16 0x76#8] ∧
      stepTransactions t = [] := by decide

/-- VL25 and VI18, last column: the transactions in order. -/
theorem test_transactions :
    stepTransactions { starting [0x36#8, 0xAB#8] with h := 0xC0#8, l := 0x20#8 } =
      [.read 0x0000#16 0x36#8, .read 0x0001#16 0xAB#8, .write 0xC020#16 0xAB#8] ∧
    stepTransactions ({ starting [0x34#8] with h := 0xC0#8 }.write8 0xC000#16 0xFF#8) =
      [.read 0x0000#16 0x34#8, .read 0xC000#16 0xFF#8, .write 0xC000#16 0x00#8] := by decide

/-- `withFetchWord` places the word where the next step fetches it. -/
theorem test_withFetchWord :
    view 0x0001#16 (State.reset.withFetchWord 16 0x7F3E) =
      some ⟨[0x7F#8, 0x00#8, 0x00#8, 0x00#8, 0x00#8, 0x00#8, 0x00#8, 0x00#8], 0x0002#16, 8#16, 0x3E#8, none, 0x7F#8⟩ ∧
    view 0x0001#16 (State.reset.withFetchWord 8 0x3C) =
      some ⟨[0x01#8, 0x00#8, 0x00#8, 0x00#8, 0x00#8, 0x00#8, 0x00#8, 0x00#8], 0x0001#16, 4#16, 0x3C#8, none, 0x00#8⟩ ∧
    (State.reset.withFetchWord 8 0x3C).mem = [(0, 0x3C#8)] := by decide

/-- R46, R47, D16: words are little-endian and wrap at 0xFFFF. -/
theorem test_words :
    ((State.reset.writeWord 0xFFFF#16 0x1234#16).mem = [(0x0000, 0x12#8), (0xFFFF, 0x34#8)]) ∧
    (State.reset.writeWord 0xFFFF#16 0x1234#16).readWord 0xFFFF#16 = 0x1234#16 := by decide

/-- R172, the layout of program P4 at a smaller size: the overlay hides the cartridge's first page. -/
theorem test_reset_image :
    let p : ResetParams :=
      { bootImage := List.replicate 256 0x40#8, cartImage := List.replicate 256 0xFF#8 ++ [0x3E#8, 0x05#8], initFill := 0x07#8 }
    resetByte p 0x0000 = 0x40#8 ∧ resetByte p 0x00FF = 0x40#8 ∧ resetByte p 0x0100 = 0x3E#8 ∧
      resetByte p 0x0101 = 0x05#8 ∧ resetByte p 0x0102 = 0x07#8 ∧ resetByte p 0xFFFF = 0x07#8 := by
  simp [-List.reduceReplicate, resetByte]

/-! ### Witnesses: every obligation's hypotheses are met, by a state and operands written out -/

theorem witness_StepRunsDecodedInstruction :
    let s := starting [0x3E#8, 0x7F#8]
    s.fault = none ∧ decode [s.read8 s.pc, s.read8 (s.pc + 1#16)] = .ok (.ld_A_d8 0x7F#8, []) := by decide

/-- The premises of `UndefinedOpcodeEntersFaultState` and of the first half of `UndefinedOpcodeIsTheOnlyException`;
the last clause meets the other half. -/
theorem witness_UndefinedOpcode :
    State.reset.fault = none ∧ State.reset.read8 State.reset.pc ∈ undefinedOpcodes ∧
    (starting [0x40#8]).fault = none ∧ (starting [0x40#8]).read8 (starting [0x40#8]).pc ∉ undefinedOpcodes := by decide

/-- A state that has faulted on the byte at its `PC`. -/
def faulted : State := { State.reset with fault := some ⟨0x00#8, 0x0000#16⟩ }

theorem witness_FaultedCoreNeverMoves :
    faulted.fault = some ⟨0x00#8, 0x0000#16⟩ ∧ Follows faulted faulted ∧ Follows State.reset faulted :=
  ⟨rfl, .more .here rfl, .more .here rfl⟩

theorem witness_DecodeInvertsEncode :
    Instr.wf (.ld_atHL_d8 0x00#8) = true ∧ Instr.wf (.cp_A_d8 0xFF#8) = true ∧ Instr.wf .inc_B = true := by decide

theorem witness_EncodeInvertsDecode :
    decode [0x36#8, 0x00#8, 0x40#8] = .ok (.ld_atHL_d8 0x00#8, [0x40#8]) ∧
    decode [0x40#8, 0xFF#8] = .ok (.ld_B_B, [0xFF#8]) := by decide

/-- First and last value of each clause. -/
theorem witness_ExactlyTheDefinedOpcodesDecode :
    0x00#8 ∈ undefinedOpcodes ∧ 0xFF#8 ∈ undefinedOpcodes ∧ 0x04#8 ∉ undefinedOpcodes ∧
    0xFE#8 ∉ undefinedOpcodes ∧ undefinedOpcodes.length = 97 ∧ undefinedOpcodes.Nodup := by decide

/-- Both lengths, in all four blocks. -/
theorem witness_LengthFollowsOpcodeFields :
    (encode .inc_B).head? = some 0x04#8 ∧ (encode (.ld_B_d8 0x12#8)).head? = some 0x06#8 ∧
    (encode .ld_B_atHL).head? = some 0x46#8 ∧ (encode .add_A_atHL).head? = some 0x86#8 ∧
    (encode (.cp_A_d8 0x12#8)).head? = some 0xFE#8 := by decide

theorem witness_AssemblyNamesInstructions :
    Asm.wf (.ld (.reg .a) .atHL) = true ∧ Asm.wf (.ld .atHL .atHL) = false ∧
    Instr.ofAsm (.ld (.reg .a) .atHL) = some .ld_A_atHL ∧ Instr.ofAsm (.ld .atHL .atHL) = none ∧
    Asm.wf (.inc (.d8 0x12#8)) = false ∧ Instr.ofAsm (.ld (.d8 0x12#8) (.reg .b)) = none := by decide

/-- A full cartridge; the empty one is `ResetParams.standard`. -/
def fullCartridge : ResetParams :=
  { bootImage := List.replicate 256 0x40#8, cartImage := List.replicate 32768 0x41#8, initFill := 0x42#8 }

/-- Well-sized parameters, and each memory clause at both ends of its range: the overlay to 0x00FF, the cartridge
from 0x0100 to 0x7FFF, the fill from 0x8000 (full cartridge) and from 0x0100 (empty one); and the two ways of
being wrongly sized. -/
theorem witness_ResetFollowsItsParameters :
    (fullCartridge.bootImage.length = 256 ∧ fullCartridge.cartImage.length ≤ 32768) ∧
    ((0x0000#16).toNat ≤ 0x00FF ∧ (0x00FF#16).toNat ≤ 0x00FF) ∧
    (0x0100 ≤ (0x0100#16).toNat ∧ (0x0100#16).toNat ≤ 0x7FFF ∧ (0x0100#16).toNat < fullCartridge.cartImage.length) ∧
    (0x0100 ≤ (0x7FFF#16).toNat ∧ (0x7FFF#16).toNat ≤ 0x7FFF ∧ (0x7FFF#16).toNat < fullCartridge.cartImage.length) ∧
    (0x0100 ≤ (0x8000#16).toNat ∧ 0x7FFF < (0x8000#16).toNat) ∧
    (0x0100 ≤ (0x0100#16).toNat ∧ ResetParams.standard.cartImage.length ≤ (0x0100#16).toNat) ∧
    ¬ (({ bootImage := [] } : ResetParams).bootImage.length = 256) ∧
    ¬ (({ cartImage := List.replicate 32769 0x00#8 } : ResetParams).cartImage.length ≤ 32768) := by
  simp [-List.reduceReplicate, fullCartridge, ResetParams.standard]

theorem witness_ResetMeetsInvariant : resetWith ResetParams.standard = some State.reset := resetWith_standard

/-- A step that executes and a step that faults, both from states with the invariant. -/
theorem witness_StepKeepsInvariant :
    (starting [0x77#8]).Inv ∧ (∃ t, step (starting [0x77#8]) = .next t) ∧
    State.reset.Inv ∧ step State.reset = .next faulted :=
  ⟨⟨by decide, fun u h => by cases h⟩, ⟨_, rfl⟩, ⟨by decide, fun u h => by cases h⟩, rfl⟩

/-- A memory in its canonical form that lists cells, at both ends of the address space. -/
def twoCells : State := { State.reset with mem := [(0x0000, 0x40#8), (0xFFFF, 0x01#8)] }

/-- For `StoreThenReadEveryAddress`, `StoreRegister`, `StoreImmediate`, `IncrementMemory`, `DecrementMemory` and
`ReadsReturnTheLastWrite`: the canonical form holds, and both clauses (same address, another) are met. -/
theorem witness_canonical_memory :
    Memory.wf twoCells.mem = true ∧ Memory.wf State.reset.mem = true ∧ (0xFFFF#16 = 0xFFFF#16) ∧
    (0x0000#16 ≠ 0xFFFF#16) ∧ (0x1234#16 ≠ joinBytes twoCells.h twoCells.l) := by decide

/-- What is not canonical: out of order, out of the space, or listing the unwritten byte. -/
theorem test_not_canonical :
    Memory.wf [(1, 0x40#8), (0, 0x40#8)] = false ∧ Memory.wf [(0x10000, 0x40#8)] = false ∧
    Memory.wf [(3, 0x00#8)] = false ∧ Memory.wf [(3, 0x40#8), (3, 0x41#8)] = false := by decide

theorem witness_CanonicalMemoriesAreArrays :
    ∃ m m' : Memory, Memory.wf m = true ∧ Memory.wf m' = true ∧
      (∀ a : Word, Memory.read m a.toNat = Memory.read m' a.toNat) ∧ m ≠ [] :=
  ⟨twoCells.mem, twoCells.mem, by decide, by decide, fun _ => rfl, by decide⟩

/-- At the top of memory, with a third address. -/
theorem witness_WordAccessesAreLittleEndian :
    Memory.wf twoCells.mem = true ∧ (0x0001#16 ≠ 0xFFFF#16) ∧ (0x0001#16 ≠ 0xFFFF#16 + 1#16) := by decide

/-- For `RegistersAreHalvesOfPairs`: both clauses of the register law. -/
theorem witness_RegistersAreHalvesOfPairs : Reg8.h = Reg8.h ∧ Reg8.l ≠ Reg8.h := by decide

theorem witness_PairsAndHalvesShareStorage : Pair.af ≠ Pair.hl ∧ Pair.bc ≠ Pair.de := by decide

/-- Both clauses of the bit laws: the same bit, and another. -/
theorem witness_FlagPrimitivesTouchOneBit :
    (7 : Fin 8) = Flag.z.pos .standard ∧ (3 : Fin 8) ≠ Flag.z.pos .standard := by decide

/-- A core at the default positions, and one at others: Z in bit 0, N in bit 1, H in bit 2, C in bit 7, with another
`CYC_MEM2`. -/
def otherParams : CoreParams := ⟨⟨0, 1, 2, 7, by decide⟩, 12#16⟩

/-- For `FlagPositions`, `FlagNibbleAfterAlu` and `LowFlagBitsAreInert`: the default positions; a mask that leaves the
named flags alone, there and at other positions; and bits that are no flag's, and are. -/
theorem witness_flag_positions :
    State.reset.params.flagPos = FlagPositions.standard ∧ otherParams.flagPos ≠ FlagPositions.standard ∧
    [Flag.z, .n, .h, .c].all (fun fl => !getFlag 0x0F#8 (State.reset.flagPos fl)) = true ∧
    [Flag.z, .n, .h, .c].all
      (fun fl => !getFlag 0x78#8 (({ State.reset with params := otherParams } : State).flagPos fl)) = true := by decide

theorem witness_OtherBit : OtherBit State.reset 3 ∧ OtherBit State.reset 0 ∧ ¬ OtherBit State.reset 4 :=
  ⟨fun fl => by cases fl <;> decide, fun fl => by cases fl <;> decide, fun h => h .c rfl⟩

/-- R3, R85: a core with `CYC_MEM2 = 12` counts 12 for `INC (HL)`, and its flags go where its positions say (VI18's
`Z=1 N=0 H=1 C=0` is then bits 0 and 2); R17: the other bits, here bit 3, are kept. -/
theorem test_other_params :
    view 0xC000#16 (({ starting [0x34#8] with f := 0x08#8, h := 0xC0#8, params := otherParams } : State).write8 0xC000#16 0xFF#8) =
      some ⟨[0x00#8, 0x0D#8, 0x00#8, 0x00#8, 0x00#8, 0x00#8, 0xC0#8, 0x00#8], 0x0001#16, 12#16, 0x34#8, none, 0x00#8⟩ := by decide

/-- R3: reset hands the core its positions and `CYC_MEM2`. -/
theorem test_reset_with_other_params :
    (resetWith { flagPos := otherParams.flagPos, cycMem2 := 12#16 }).map State.params = some otherParams := by
  simp [-List.reduceReplicate, resetWith, ResetParams.wf, romBytes, bootBytes, otherParams]

/-- For `StackPointerIsInert`, `LowFlagBitsAreInert`, `ParametersNeverChange`, `CycleCounterLaw` and
`OnlyWriteTransactionsChangeMemory`: a step, and reachable states before and after one. -/
theorem witness_steps_and_runs :
    step State.reset = .next faulted ∧ Reachable .standard State.reset ∧ Reachable .standard faulted :=
  ⟨rfl, .reset resetWith_standard, .more (.reset resetWith_standard) rfl⟩

/-- A step that executes: it ends with no fault; the step above ends with one. -/
theorem witness_CycleCounterLaw :
    (∃ t, step (starting [0x40#8]) = .next t ∧ t.fault = none) ∧ faulted.fault ≠ none ∧
    (starting [0x40#8]).params.cycMem2 = 8#16 ∧
    resetWith .standard = some State.reset :=
  ⟨⟨_, rfl, rfl⟩, by decide, rfl, resetWith_standard⟩

/-- `ADC A,B`, which reads Carry, from a state with Carry set and the other flags changed. -/
theorem witness_OnlyCarryIsRead :
    getFlag 0x1F#8 (({ starting [0x88#8] with f := 0xF0#8 } : State).flagPos .c) =
      ({ starting [0x88#8] with f := 0xF0#8 } : State).flag .c ∧
    ∃ t, step { starting [0x88#8] with f := 0xF0#8 } = .next t :=
  ⟨by decide, _, rfl⟩

theorem witness_TransactionOrder : (starting [0x34#8]).fault = none := by decide

/-- A state that runs a member of each row of R51's table; `0x00` at `PC` is the last row's. -/
theorem witness_TransactionTable :
    Runs (starting [0x41#8]) .ld_B_C ∧ Runs (starting [0x3C#8]) .inc_A ∧ Runs (starting [0x3D#8]) .dec_A ∧
    Runs (starting [0x66#8]) .ld_H_atHL ∧ Runs (starting [0x75#8]) .ld_atHL_L ∧
    Runs (starting [0x1E#8, 0xFF#8]) (.ld_E_d8 0xFF#8) ∧ Runs (starting [0x36#8, 0xAB#8]) (.ld_atHL_d8 0xAB#8) ∧
    Runs (starting [0x34#8]) .inc_atHL ∧ Runs (starting [0x35#8]) .dec_atHL ∧
    Runs (starting [0x86#8]) .add_A_atHL ∧ Runs (starting [0xFE#8, 0x12#8]) (.cp_A_d8 0x12#8) ∧
    State.reset.fault = none ∧ State.reset.read8 State.reset.pc ∈ undefinedOpcodes :=
  ⟨⟨rfl, _, rfl⟩, ⟨rfl, _, rfl⟩, ⟨rfl, _, rfl⟩, ⟨rfl, _, rfl⟩, ⟨rfl, _, rfl⟩, ⟨rfl, _, rfl⟩, ⟨rfl, _, rfl⟩, ⟨rfl, _, rfl⟩,
    ⟨rfl, _, rfl⟩, ⟨rfl, _, rfl⟩, ⟨rfl, _, rfl⟩, rfl, by decide⟩

/-- A run of two steps: `LD (HL),H` with `HL = 0x4001`, then the fetch at `0x4001` from a `PC` placed there. -/
theorem witness_ReadsReturnTheLastWrite :
    let s := { State.reset with h := 0x40#8, l := 0x01#8, pc := 0x4000#16, mem := [(0x4000, 0x74#8)] }
    Memory.wf s.mem = true ∧ (∃ t, Host.Core.run Sys2Proof.core 2 s = .next t) ∧
    traceOf 2 s = [.read 0x4000#16 0x74#8, .write 0x4001#16 0x40#8] ++ .read 0x4001#16 0x40#8 :: [] :=
  ⟨by decide, ⟨_, rfl⟩, by decide⟩

/-- `LD (HL),A` at 0 with `HL = 1`. -/
theorem witness_StoreIntoInstructionStream :
    let s := { starting [0x77#8] with a := 0x3C#8, l := 0x01#8 }
    (Instr.ld_atHL_A, Reg8.a) ∈ ldAtHLRegTable ∧ Memory.wf s.mem = true ∧ s.fault = none ∧
    encode .ld_atHL_A = [s.read8 s.pc] ∧ joinBytes s.h s.l = s.pc + 1#16 := by decide

/-- Every kind of destination, loads and others, Carry written and not. -/
theorem witness_OneDestinationPerInstruction :
    destination (Instr.asm .inc_B) ≠ some (.reg .c) ∧ destination (Instr.asm .inc_B) ≠ some .atHL ∧
    destination (Instr.asm .cp_A_B) ≠ some (.reg .a) ∧ isLoad (Instr.asm .ld_B_C) = true ∧
    writesCarry (Instr.asm .inc_B) = false ∧ writesCarry (Instr.asm .add_A_B) = true ∧
    (0x1234#16 ≠ joinBytes State.reset.h State.reset.l) := by decide

/-- A member of each table of loads, increments and decrements, and another register than its destination. -/
theorem witness_load_and_incdec_tables :
    (Instr.ld_A_H, Reg8.a, Reg8.h) ∈ ldRegRegTable ∧ (Instr.ld_H_atHL, Reg8.h) ∈ ldRegAtHLTable ∧
    (Instr.ld_atHL_L, Reg8.l) ∈ ldAtHLRegTable ∧ (Instr.ld_E_d8 0xFF#8, Reg8.e) ∈ ldRegD8Table 0xFF#8 ∧
    (Instr.inc_A, Reg8.a) ∈ incRegTable ∧ (Instr.dec_L, Reg8.l) ∈ decRegTable ∧ Reg8.b ≠ Reg8.a := by decide

/-- The tables have the sizes the spec counts (R67: 49, 7, 7, 7, 7, 7; 9 of each ALU operation). -/
theorem test_table_sizes :
    [ldRegRegTable.length, ldRegAtHLTable.length, ldAtHLRegTable.length, (ldRegD8Table 0x00#8).length,
      incRegTable.length, decRegTable.length, (arithTable 0x00#8).length, (logicTable 0x00#8).length] =
      [49, 7, 7, 7, 7, 7, 45, 27] := by decide

/-- A member of each ALU table, in all three operand classes. -/
theorem witness_alu_tables :
    (Instr.add_A_A, Operand.reg .a) ∈ addTable 0x12#8 ∧ (Instr.adc_A_atHL, Operand.atHL) ∈ adcTable 0x12#8 ∧
    (Instr.sub_A_d8 0x12#8, Operand.d8 0x12#8) ∈ subTable 0x12#8 ∧ (Instr.sbc_A_L, Operand.reg .l) ∈ sbcTable 0x12#8 ∧
    (Instr.cp_A_B, Operand.reg .b) ∈ cpTable 0x12#8 := by decide

/-- A member of every operation of `ArithmeticLaws`, `LogicOperations`, `AluSkeleton` and `FlagNibbleAfterAlu`. -/
theorem witness_alu_operations :
    (AluOp.add, Instr.add_A_B, Operand.reg .b) ∈ arithTable 0x12#8 ∧ (AluOp.adc, Instr.adc_A_B, Operand.reg .b) ∈ arithTable 0x12#8 ∧
    (AluOp.sub, Instr.sub_A_B, Operand.reg .b) ∈ arithTable 0x12#8 ∧ (AluOp.sbc, Instr.sbc_A_B, Operand.reg .b) ∈ arithTable 0x12#8 ∧
    (AluOp.cp, Instr.cp_A_d8 0x12#8, Operand.d8 0x12#8) ∈ arithTable 0x12#8 ∧
    (AluOp.and, Instr.and_A_atHL, Operand.atHL) ∈ logicTable 0x12#8 ∧ (AluOp.xor, Instr.xor_A_A, Operand.reg .a) ∈ logicTable 0x12#8 ∧
    (AluOp.or, Instr.or_A_d8 0x12#8, Operand.d8 0x12#8) ∈ logicTable 0x12#8 ∧ AluOp.add ≠ .adc ∧ AluOp.add ≠ .sbc := by decide

/-- The step clause of `AluSkeleton`, for the immediate class. -/
theorem witness_AluSkeleton :
    (starting [0xC6#8, 0x12#8]).fault = none ∧
    decode [(starting [0xC6#8, 0x12#8]).read8 (starting [0xC6#8, 0x12#8]).pc,
      (starting [0xC6#8, 0x12#8]).read8 ((starting [0xC6#8, 0x12#8]).pc + 1#16)] = .ok (.add_A_d8 0x12#8, []) ∧
    (AluOp.add, Instr.add_A_d8 0x12#8, Operand.d8 0x12#8) ∈ arithTable 0x12#8 ++ logicTable 0x12#8 := by decide

theorem witness_AndAtHLFromItsOpcode :
    (starting [0xA6#8]).fault = none ∧ (starting [0xA6#8]).read8 (starting [0xA6#8]).pc = 0xA6#8 := by decide

end Sys2Proof.Tests
end

/-! What a write to a half or to a pair does to every pair, and the register file's law (`spec/10_state.md` R11). -/
namespace Sys2Proof.Machine

@[simp] theorem highByte_pair (s : State) (p : Pair) : highByte (s.pair p) = s.pairHigh p := highByte_joinBytes _ _
@[simp] theorem lowByte_pair (s : State) (p : Pair) : lowByte (s.pair p) = s.pairLow p := lowByte_joinBytes _ _

/-- A pair is determined by its halves. -/
theorem State.pair_congr {s t : State} {p : Pair} (hHigh : t.pairHigh p = s.pairHigh p)
    (hLow : t.pairLow p = s.pairLow p) : t.pair p = s.pair p := by
  rw [State.pair, State.pair, hHigh, hLow]

@[simp] theorem State.pairHigh_setPairHigh (s : State) (p q : Pair) (v : Byte) :
    (s.setPairHigh p v).pairHigh q = if q = p then v else s.pairHigh q := by cases p <;> cases q <;> rfl
@[simp] theorem State.pairLow_setPairHigh (s : State) (p q : Pair) (v : Byte) :
    (s.setPairHigh p v).pairLow q = s.pairLow q := by cases p <;> cases q <;> rfl
@[simp] theorem State.pairHigh_setPairLow (s : State) (p q : Pair) (v : Byte) :
    (s.setPairLow p v).pairHigh q = s.pairHigh q := by cases p <;> cases q <;> rfl
@[simp] theorem State.pairLow_setPairLow (s : State) (p q : Pair) (v : Byte) :
    (s.setPairLow p v).pairLow q = if q = p then v else s.pairLow q := by cases p <;> cases q <;> rfl

@[simp] theorem State.pairHigh_setPair (s : State) (p q : Pair) (w : Word) :
    (s.setPair p w).pairHigh q = if q = p then highByte w else s.pairHigh q := by simp [State.setPair]
@[simp] theorem State.pairLow_setPair (s : State) (p q : Pair) (w : Word) :
    (s.setPair p w).pairLow q = if q = p then lowByte w else s.pairLow q := by simp [State.setPair]

/-- A 16-bit write is read back, whole. -/
theorem State.pair_setPair_same (s : State) (p : Pair) (w : Word) : (s.setPair p w).pair p = w := by
  simp [State.pair]

/-- Settles O20: from what each write does to the two halves of every pair. -/
theorem pairsAndHalvesShareStorage : Obligations.PairsAndHalvesShareStorage := by
  intro s p q v w
  have hSame : (s.setPair p w).pairHigh p = highByte w ∧ (s.setPair p w).pairLow p = lowByte w := by simp
  have hOther (hne : q ≠ p) : (s.setPairHigh p v).pair q = s.pair q ∧ (s.setPairLow p v).pair q = s.pair q ∧
      (s.setPair p w).pair q = s.pair q :=
    ⟨State.pair_congr (by simp [hne]) (by simp), State.pair_congr (by simp) (by simp [hne]),
      State.pair_congr (by simp [hne]) (by simp [hne])⟩
  have hFrame : ∀ t ∈ [s.setPairHigh p v, s.setPairLow p v, s.setPair p w],
      t.pc = s.pc ∧ t.sp = s.sp ∧ t.cycleCount = s.cycleCount ∧ t.opcode = s.opcode ∧
      t.mem = s.mem ∧ t.fault = s.fault ∧ t.params = s.params := by simp [State.setPair]
  exact ⟨highByte_pair s p, lowByte_pair s p, by simp, by simp, ⟨State.pair_setPair_same s p w, hSame⟩, hOther,
    hFrame⟩

/-! The flag primitives (R18): the model's laws say what each does to every bit; `set_flag(0, bit)` remains. -/

/-- R18: `set_flag` with the value 0 does not clear. -/
@[simp] theorem setFlag_false (f : Byte) (bit : Fin 8) : setFlag f false bit = f := by simp [setFlag]

/-- Settles O22: from the laws of `setFlag`, `clearFlag` and `assignFlag`. -/
theorem flagPrimitivesTouchOneBit : Obligations.FlagPrimitivesTouchOneBit := fun p f v fl bit k =>
  ⟨rfl, getFlag_setFlag f v bit k, setFlag_false f bit, getFlag_clearFlag f bit k, rfl,
    getFlag_assignFlag p f fl v k⟩

/-! `SP` (R20): putting another value in `SP` commutes with everything a step does. -/

/-- The state with another value in `SP`. -/
def State.withSp (s : State) (v : Word) : State := { s with sp := v }

section
variable (s : State) (v : Word)

@[simp] theorem State.reg_withSp (r : Reg8) : (s.withSp v).reg r = s.reg r := by cases r <;> rfl
@[simp] theorem State.hl_withSp : (s.withSp v).hl = s.hl := rfl
@[simp] theorem State.read8_withSp (a : Word) : (s.withSp v).read8 a = s.read8 a := rfl
@[simp] theorem State.readPlace_withSp (p : Place) : (s.withSp v).readPlace p = s.readPlace p := by cases p <;> simp
@[simp] theorem State.fetchBytes_withSp : (s.withSp v).fetchBytes = s.fetchBytes := rfl
@[simp] theorem State.pc_withSp : (s.withSp v).pc = s.pc := rfl
@[simp] theorem State.fault_withSp : (s.withSp v).fault = s.fault := rfl
@[simp] theorem State.params_withSp : (s.withSp v).params = s.params := rfl

@[simp] theorem State.setReg_withSp (r : Reg8) (x : Byte) :
    (s.withSp v).setReg r x = (s.setReg r x).withSp v := by cases r <;> rfl
@[simp] theorem State.write8_withSp (a : Word) (x : Byte) :
    (s.withSp v).write8 a x = (s.write8 a x).withSp v := rfl
@[simp] theorem State.writePlace_withSp (p : Place) (x : Byte) :
    (s.withSp v).writePlace p x = (s.writePlace p x).withSp v := by cases p <;> simp
@[simp] theorem State.advance_withSp (len cost : Word) :
    (s.withSp v).advance len cost = (s.advance len cost).withSp v := rfl
@[simp] theorem State.latchOpcode_withSp (op : Byte) :
    (s.withSp v).latchOpcode op = (s.latchOpcode op).withSp v := rfl
@[simp] theorem State.raiseUndefinedOpcode_withSp (op : Byte) (pc0 : Word) :
    (s.withSp v).raiseUndefinedOpcode op pc0 = (s.raiseUndefinedOpcode op pc0).withSp v := rfl

@[simp] theorem aluEffect_withSp (op : AluOp) (b : Byte) :
    aluEffect op b (s.withSp v) = (aluEffect op b s).withSp v := by cases op <;> rfl
@[simp] theorem incPlace_withSp (p : Place) : incPlace p (s.withSp v) = (incPlace p s).withSp v := by
  rw [incPlace_eq, State.readPlace_withSp, State.writePlace_withSp]
  rfl
@[simp] theorem decPlace_withSp (p : Place) : decPlace p (s.withSp v) = (decPlace p s).withSp v := by
  rw [decPlace_eq, State.readPlace_withSp, State.writePlace_withSp]
  rfl

/-- No handler reads or writes `SP`, whatever its shape. -/
@[simp] theorem shapeEffect_withSp (i : Asm) : shapeEffect (s.withSp v) i = (shapeEffect s i).withSp v := by
  cases i with
  | ld dst src => cases dst <;> cases src <;> simp [shapeEffect]
  | inc x => cases x <;> simp [shapeEffect]
  | dec x => cases x <;> simp [shapeEffect]
  | alu op src => cases src <;> simp [shapeEffect]

end

theorem step_withSp {s t : State} (h : step s = .next t) (v : Word) : step (s.withSp v) = .next (t.withSp v) := by
  obtain ⟨u, hf, rfl⟩ | ⟨hf, hd, rfl⟩ | ⟨i, rest, hf, hd, rfl⟩ := step_cases h
  · exact step_of_fault (s := t.withSp v) hf
  · simp [step_of_undefined (s := s.withSp v) hf hd]
  · simp [step_of_decode (s := s.withSp v) hf hd, exec_eq_shapeEffect]

theorem step_keeps_sp {s t : State} (h : step s = .next t) : t.sp = s.sp := by
  obtain ⟨u, hf, rfl⟩ | ⟨hf, hd, rfl⟩ | ⟨i, rest, hf, hd, rfl⟩ := step_cases h
  · rfl
  · simp
  · simp [shapeEffect_sp]

/-- A property that reset establishes and every step keeps holds in every state of a run from reset. -/
theorem Reachable.induct {p : ResetParams} {P : State → Prop} {s : State} (h : Reachable p s)
    (hReset : ∀ {u : State}, resetWith p = some u → P u)
    (hStep : ∀ {u v : State}, P u → step u = .next v → P v) : P s := by
  induction h with
  | reset h0 => exact hReset h0
  | more _ hs ih => exact hStep ih hs

theorem resetWith_sp {p : ResetParams} {s : State} (h : resetWith p = some s) : s.sp = p.resetSp := by
  obtain ⟨_, _, _, _, hsp, _⟩ := resetWith_eq_some h
  exact hsp

/-- Settles O24: a step keeps `SP` and commutes with changing it; the last clause is by induction along the run. -/
theorem stackPointerIsInert : Obligations.StackPointerIsInert :=
  ⟨fun _ _ => step_keeps_sp, fun _ _ v h => step_withSp h v,
    fun _ _ h => h.induct resetWith_sp fun hu hs => (step_keeps_sp hs).trans hu⟩

end Sys2Proof.Machine

/-! Memory along a run (`spec/20_memory.md` R43 to R45, R51, R52).  A list of transactions changes memory by its
writes alone; a step, and so a run, changes memory by its own transactions, and each of its reads returns what
memory holds when the read is made. -/
namespace Sys2Proof.Machine
open Slice0

/-- Settles O17: a store changes the field `mem` alone, and R45 gives what is read afterwards. -/
theorem storeThenReadEveryAddress : Obligations.StoreThenReadEveryAddress :=
  fun _ a x v h => ⟨State.read8_write8 h a x v, rfl⟩

/-! ### Lists of transactions -/

@[simp] theorem Transaction.apply_read (m : Memory) (a : Word) (v : Byte) : Transaction.apply m (.read a v) = m := rfl
@[simp] theorem Transaction.apply_write (m : Memory) (a : Word) (v : Byte) :
    Transaction.apply m (.write a v) = Memory.write m a.toNat v := rfl

/-- R45 for a memory that stands alone. -/
theorem Memory.read_write {m : Memory} (h : Memory.wf m = true) (a x : Word) (v : Byte) :
    Memory.read (Memory.write m a.toNat v) x.toNat = if x = a then v else Memory.read m x.toNat :=
  State.read8_write8 (s := { State.reset with mem := m }) h a x v

/-- After a list of transactions, a cell holds the last byte written to it. -/
theorem read_foldl_apply {m : Memory} (h : Memory.wf m = true) (a : Word) (l : List Transaction) :
    Memory.read (l.foldl Transaction.apply m) a.toNat = lastWritten a (Memory.read m a.toNat) l := by
  induction l generalizing m with
  | nil => rfl
  | cons x l ih =>
    cases x with
    | read b v => exact ih h
    | write b v =>
      rw [List.foldl_cons, Transaction.apply_write, ih (Memory.wf_write h b v), Memory.read_write h]
      simp only [lastWritten, eq_comm (a := b)]

/-- Every read in the list returns what memory holds when it is made, starting from `m`. -/
def ReadsSee : Memory → List Transaction → Prop
  | _, [] => True
  | m, .read a v :: rest => v = Memory.read m a.toNat ∧ ReadsSee m rest
  | m, .write a v :: rest => ReadsSee (Memory.write m a.toNat v) rest

@[simp] theorem readsSee_nil (m : Memory) : ReadsSee m [] := trivial
@[simp] theorem readsSee_read (m : Memory) (a : Word) (v : Byte) (rest : List Transaction) :
    ReadsSee m (.read a v :: rest) ↔ v = Memory.read m a.toNat ∧ ReadsSee m rest := Iff.rfl
@[simp] theorem readsSee_write (m : Memory) (a : Word) (v : Byte) (rest : List Transaction) :
    ReadsSee m (.write a v :: rest) ↔ ReadsSee (Memory.write m a.toNat v) rest := Iff.rfl

theorem readsSee_append (m : Memory) (l l' : List Transaction) :
    ReadsSee m (l ++ l') ↔ ReadsSee m l ∧ ReadsSee (l.foldl Transaction.apply m) l' := by
  induction l generalizing m with
  | nil => simp
  | cons x l ih => cases x <;> simp [ih, and_assoc]

/-- A read in such a list returns the last byte written to its address before it. -/
theorem ReadsSee.eq_lastWritten {m : Memory} {before later : List Transaction} {a : Word} {v : Byte}
    (h : ReadsSee m (before ++ .read a v :: later)) (hm : Memory.wf m = true) :
    v = lastWritten a (Memory.read m a.toNat) before := by
  obtain ⟨_, hv, _⟩ := (readsSee_append m before _).mp h
  rw [hv, read_foldl_apply hm]

/-! ### The transactions of a step -/

theorem stepTransactions_of_fault {s : State} {u : UndefinedOpcode} (hf : s.fault = some u) :
    stepTransactions s = [] := by simp [stepTransactions, hf]
theorem stepTransactions_of_undefined {s : State} {err : DecodeError} (hf : s.fault = none)
    (hd : decode s.fetchBytes = .error err) : stepTransactions s = [.read s.pc (s.read8 s.pc)] := by
  simp [stepTransactions, hf, hd]
theorem stepTransactions_of_decode {s : State} {i : Instr} {rest : List Byte} (hf : s.fault = none)
    (hd : decode s.fetchBytes = .ok (i, rest)) :
    stepTransactions s = .read s.pc (s.read8 s.pc) :: operandTransactions s i.asm := by
  simp [stepTransactions, hf, hd]

@[simp] theorem operandTransactions_latchOpcode (s : State) (op : Byte) (i : Asm) :
    operandTransactions (s.latchOpcode op) i = operandTransactions s i := by
  cases i with
  | ld dst src => cases dst <;> cases src <;> simp [operandTransactions, hlRead, immediateRead]
  | inc x => cases x <;> simp [operandTransactions, hlRead]
  | dec x => cases x <;> simp [operandTransactions, hlRead]
  | alu op src => cases src <;> simp [operandTransactions, hlRead, immediateRead]

/-- A handler changes memory by its form's transactions (R51). -/
theorem shapeEffect_mem (s : State) (i : Asm) :
    (shapeEffect s i).mem = (operandTransactions s i).foldl Transaction.apply s.mem := by
  cases i with
  | ld dst src => cases dst <;> cases src <;> simp [shapeEffect, operandTransactions, hlRead, immediateRead]
  | inc x =>
    cases x <;> simp [shapeEffect, operandTransactions, hlRead, incPlace_eq, State.writePlace, State.readPlace]
  | dec x =>
    cases x <;> simp [shapeEffect, operandTransactions, hlRead, decPlace_eq, State.writePlace, State.readPlace]
  | alu op src =>
    cases src <;> simp [shapeEffect, operandTransactions, hlRead, immediateRead, aluEffect_mem]

/-- The operand reads of a form return what memory held at its start: no form writes before it reads. -/
theorem readsSee_operandTransactions (s : State) (i : Asm) : ReadsSee s.mem (operandTransactions s i) := by
  cases i with
  | ld dst src => cases dst <;> cases src <;> simp [operandTransactions, hlRead, immediateRead, State.read8]
  | inc x => cases x <;> simp [operandTransactions, hlRead, State.read8]
  | dec x => cases x <;> simp [operandTransactions, hlRead, State.read8]
  | alu op src => cases src <;> simp [operandTransactions, hlRead, immediateRead, State.read8]

/-- A step changes memory by its transactions and by nothing else (R58). -/
theorem step_mem {s t : State} (h : step s = .next t) :
    t.mem = (stepTransactions s).foldl Transaction.apply s.mem := by
  obtain ⟨u, hf, rfl⟩ | ⟨hf, hd, rfl⟩ | ⟨i, rest, hf, hd, rfl⟩ := step_cases h
  · rw [stepTransactions_of_fault hf, List.foldl_nil]
  · simp [stepTransactions_of_undefined hf hd]
  · simp [stepTransactions_of_decode hf hd, shapeEffect_mem]

/-- Every read of a step, the fetch included, returns what memory holds when it is made. -/
theorem readsSee_stepTransactions (s : State) : ReadsSee s.mem (stepTransactions s) := by
  obtain ⟨t, h⟩ := step_total s
  obtain ⟨u, hf, -⟩ | ⟨hf, hd, -⟩ | ⟨i, rest, hf, hd, -⟩ := step_cases h
  · simp [stepTransactions_of_fault hf]
  · simp [stepTransactions_of_undefined hf hd, State.read8]
  · simp [stepTransactions_of_decode hf hd, readsSee_operandTransactions, State.read8]

/-! ### The transactions of a run -/

theorem traceOf_succ {s t : State} (h : step s = .next t) (n : Nat) :
    traceOf (n + 1) s = stepTransactions s ++ traceOf n t := by simp [traceOf, h]

theorem run_succ {s t : State} (h : step s = .next t) (n : Nat) :
    Host.Core.run Sys2Proof.core (n + 1) s = Host.Core.run Sys2Proof.core n t := by
  simp only [Host.Core.run, Sys2Proof.core, h]

/-- A run changes memory by its transactions and by nothing else. -/
theorem run_mem {n : Nat} {s t : State} (h : Host.Core.run Sys2Proof.core n s = .next t) :
    t.mem = (traceOf n s).foldl Transaction.apply s.mem := by
  induction n generalizing s with
  | zero =>
    cases h
    rfl
  | succ n ih =>
    obtain ⟨u, hu⟩ := step_total s
    rw [run_succ hu] at h
    rw [traceOf_succ hu, List.foldl_append, ← step_mem hu, ih h]

/-- Every read of a run returns what memory holds when it is made. -/
theorem readsSee_traceOf (n : Nat) (s : State) : ReadsSee s.mem (traceOf n s) := by
  induction n generalizing s with
  | zero => exact readsSee_nil _
  | succ n ih =>
    obtain ⟨u, hu⟩ := step_total s
    rw [traceOf_succ hu, readsSee_append, ← step_mem hu]
    exact ⟨readsSee_stepTransactions s, ih u⟩

/-- Settles O31: along a run memory is the fold of the transactions and every read sees it (both by induction on the
number of steps); in canonical memory that fold holds the last byte written to each cell. -/
theorem readsReturnTheLastWrite : Obligations.ReadsReturnTheLastWrite := by
  intro n s t hm hrun
  refine ⟨fun a => ?_, fun before later a v htrace => ?_⟩
  · rw [State.read8, run_mem hrun]
    exact read_foldl_apply hm a _
  · have hsee : ReadsSee s.mem (before ++ .read a v :: later) := htrace ▸ readsSee_traceOf n s
    exact hsee.eq_lastWritten hm

end Sys2Proof.Machine

/-! 8-bit arithmetic (`spec/43_alu_arith.md` R126): the results are those of the exact integers modulo 256 and of the
operands read as two's complement; the carries are bits of the sums; a borrow is the carry of adding back. -/
namespace Sys2Proof.Machine
open Slice0

section
variable (a b : Byte) (cin : Bool)

/-! ### The results -/

theorem toNat_addRes : (addRes a b cin).toNat = (a.toNat + b.toNat + cin.toNat) % 256 := BitVec.toNat_ofNat _ _

theorem toNat_subRes : ((subRes a b cin).toNat : Int) = ((a.toNat : Int) - b.toNat - cin.toNat) % 256 := by
  rw [subRes, BitVec.toNat_ofInt, Int.toNat_of_nonneg (Int.emod_nonneg _ (by decide))]
  rfl

theorem toInt_addRes : (addRes a b cin).toInt = (a.toInt + b.toInt + cin.toNat).bmod 256 := by
  simp [addRes_eq, BitVec.toInt_add]

theorem toInt_subRes : (subRes a b cin).toInt = (a.toInt - b.toInt - cin.toNat).bmod 256 := by
  simp [subRes_eq, BitVec.toInt_sub]

/-- Adding back what was subtracted. -/
theorem addRes_subRes : addRes (subRes a b cin) b cin = a := by
  rw [addRes_eq, subRes_eq]
  bv_omega

/-! ### The carries and the borrows -/

theorem lowNibble_eq_mod (v : Byte) : lowNibble v = v.toNat % 16 := Nat.and_two_pow_sub_one_eq_mod v.toNat 4

/-- The half-carry is the carry into bit 4 of the ripple-carry addition. -/
theorem addH_eq_carry : addH a b cin = BitVec.carry 4 a b cin := by
  simp only [addH, lowNibble_eq_mod, BitVec.carry]
  rfl

theorem addH_eq_getLsbD : addH a b cin = (a ^^^ b ^^^ addRes a b cin).getLsbD 4 := by
  rw [addH_eq_carry, addRes_eq, BitVec.getLsbD_xor, BitVec.getLsbD_xor, BitVec.getLsbD_add_add_bool (by decide)]
  cases a.getLsbD 4 <;> cases b.getLsbD 4 <;> simp

/-- A half-borrow is the half-carry of adding back. -/
theorem subH_eq_addH_subRes : subH a b cin = addH (subRes a b cin) b cin := by
  have hres := toNat_subRes a b cin
  have hcin := cin.toNat_le
  simp only [subH, addH, lowNibble_eq_mod, decide_eq_decide]
  omega

theorem subH_eq_getLsbD : subH a b cin = (a ^^^ b ^^^ subRes a b cin).getLsbD 4 := by
  rw [subH_eq_addH_subRes, addH_eq_getLsbD, addRes_subRes]
  congr 1
  ac_rfl

theorem addC_eq_testBit : addC a b cin = (a.toNat + b.toNat + cin.toNat).testBit 8 := by
  have hcin := cin.toNat_le
  rw [addC, Nat.testBit_eq_decide_div_mod_eq, decide_eq_decide]
  omega

theorem subC_eq_decide_neg : subC a b cin = decide ((a.toNat : Int) - b.toNat - cin.toNat < 0) := by
  rw [subC, decide_eq_decide]
  omega

/-- `b + cin` is exact: it reaches 256, and then there is a borrow from every `a`. -/
theorem subC_0xFF_true : subC a 0xFF#8 true = true := decide_eq_true a.isLt

end

/-! ### Their use by the instructions -/

/-- R110: an ALU handler, for the three operand classes at once. -/
theorem shapeEffect_alu (s : State) (op : AluOp) (o : Operand) :
    shapeEffect s (.alu op o) = (aluEffect op (secondOperand s o) s).advance (aluLen o) (aluCost o) := by
  cases o <;> rfl

/-- The table of the arithmetic instructions names each by its operation and its operand. -/
theorem asm_of_mem_arithTable {d8 : Byte} {x : AluOp × Instr × Operand} (hx : x ∈ arithTable d8) :
    x.2.1.asm = .alu x.1 x.2.2 := by
  have h : (arithTable d8).map (fun x => x.2.1.asm) = (arithTable d8).map (fun x => .alu x.1 x.2.2) := rfl
  exact List.map_inj_left.mp h x hx

/-- The `cin` of an operation (R126): Carry before the step for `ADC` and `SBC`, 0 otherwise. -/
def aluCin (op : AluOp) (s : State) : Bool := decide (op = .adc ∨ op = .sbc) && s.flag .c

/-- A state whose `F` is a full flag write holds the four flags written. -/
theorem flagsAre_of_f_eq_writeZNHC {t : State} {f : Byte} {z n h c : Bool}
    (hf : t.f = writeZNHC t.params.flagPos f z n h c) : FlagsAre t z n h c := by
  simp [FlagsAre, State.flag, State.flagPos, hf]

section
variable {op : AluOp} (b : Byte) (s : State)

theorem aluEffect_adds (hop : op = .add ∨ op = .adc) :
    (aluEffect op b s).a = addRes s.a b (aluCin op s) ∧
    FlagsAre (aluEffect op b s) (isZero (addRes s.a b (aluCin op s))) false (addH s.a b (aluCin op s))
      (addC s.a b (aluCin op s)) := by
  obtain rfl | rfl := hop <;> exact ⟨rfl, flagsAre_of_f_eq_writeZNHC rfl⟩

theorem aluEffect_subtracts (hop : op = .sub ∨ op = .sbc) :
    (aluEffect op b s).a = subRes s.a b (aluCin op s) := by
  obtain rfl | rfl := hop <;> rfl

theorem aluEffect_borrows (hop : op = .sub ∨ op = .sbc ∨ op = .cp) :
    FlagsAre (aluEffect op b s) (isZero (subRes s.a b (aluCin op s))) true (subH s.a b (aluCin op s))
      (subC s.a b (aluCin op s)) := by
  obtain rfl | rfl | rfl := hop <;> exact flagsAre_of_f_eq_writeZNHC rfl

end

/-- Settles O49: the laws of the results and carries above; each of the 45 handlers is the effect of its operation. -/
theorem arithmeticLaws : Obligations.ArithmeticLaws := by
  refine ⟨fun a b cin => ?_, fun d8 x hx s => ?_⟩
  · exact ⟨toNat_addRes a b cin, toNat_subRes a b cin, rfl, rfl, rfl, rfl, addH_eq_getLsbD a b cin,
      subH_eq_getLsbD a b cin, addC_eq_testBit a b cin, subC_eq_decide_neg a b cin, toInt_addRes a b cin,
      toInt_subRes a b cin, subC_0xFF_true a⟩
  · have hexec := exec_eq_shapeEffect x.2.1 s
    rw [asm_of_mem_arithTable hx, shapeEffect_alu] at hexec
    refine ⟨_, hexec, fun hadd => ?_, aluEffect_subtracts _ s, fun hborrow => ?_⟩
    · obtain ⟨ha, -, -, hH, hC⟩ := aluEffect_adds (secondOperand s x.2.2) s hadd
      exact ⟨ha, hH, hC⟩
    · obtain ⟨-, -, hH, hC⟩ := aluEffect_borrows (secondOperand s x.2.2) s hborrow
      exact ⟨hH, hC⟩

end Sys2Proof.Machine

/-! 8-bit logic (`spec/44_alu_logic.md` R130, R132): the result bit by bit and the four flags of the three logic
operations, for every operand; then the 27 instructions, and the step that fetches `0xA6`. -/
namespace Sys2Proof.Machine
open Slice0

/-! ### What the logic operations write -/

/-- `AND`, `XOR` and `OR`, the operations of R130. -/
def IsLogic (op : AluOp) : Prop := op = .and ∨ op = .xor ∨ op = .or

section
variable {op : AluOp} (b : Byte) (s : State)

theorem getLsbD_aluEffect_logic (hop : IsLogic op) (k : Nat) :
    (aluEffect op b s).a.getLsbD k =
      (if op = .and then s.a.getLsbD k && b.getLsbD k
       else if op = .xor then s.a.getLsbD k != b.getLsbD k
       else s.a.getLsbD k || b.getLsbD k) := by
  obtain rfl | rfl | rfl := hop
  · exact BitVec.getLsbD_and
  · exact BitVec.getLsbD_xor
  · exact BitVec.getLsbD_or

/-- The flags depend on the result and on the operation, and on no flag before. -/
theorem flagsAre_aluEffect_logic (hop : IsLogic op) :
    FlagsAre (aluEffect op b s) (isZero (aluEffect op b s).a) false (decide (op = .and)) false := by
  obtain rfl | rfl | rfl := hop <;> exact flagsAre_of_f_eq_writeZNHC rfl

end

/-! ### The handlers -/

/-- R110: the handler of an instruction whose term is that of an ALU operation on `o`. -/
theorem exec_of_asm_eq_alu {i : Instr} {op : AluOp} {o : Operand} (hi : i.asm = .alu op o) (s : State) :
    exec i s = .next ((aluEffect op (secondOperand s o) s).advance (aluLen o) (aluCost o)) := by
  rw [exec_eq_shapeEffect, hi, shapeEffect_alu]

/-- The frame of an ALU handler, for every operation. -/
theorem onlyAccumulatorAndFlags_aluEffect_advance (op : AluOp) (b : Byte) (s : State) (len cost : Word) :
    OnlyAccumulatorAndFlags s ((aluEffect op b s).advance len cost) := by
  rw [aluEffect_frame]
  rfl

/-- The table of the logic instructions names each by its operation and its operand. -/
theorem asm_of_mem_logicTable {d8 : Byte} {x : AluOp × Instr × Operand} (hx : x ∈ logicTable d8) :
    x.2.1.asm = .alu x.1 x.2.2 := by
  have h : (logicTable d8).map (fun x => x.2.1.asm) = (logicTable d8).map (fun x => .alu x.1 x.2.2) := rfl
  exact List.map_inj_left.mp h x hx

theorem isLogic_of_mem_logicTable {d8 : Byte} {x : AluOp × Instr × Operand} (hx : x ∈ logicTable d8) :
    IsLogic x.1 := by
  simp only [logicTable, List.mem_append, List.mem_map] at hx
  obtain (⟨_, _, rfl⟩ | ⟨_, _, rfl⟩) | ⟨_, _, rfl⟩ := hx
  · exact .inl rfl
  · exact .inr (.inl rfl)
  · exact .inr (.inr rfl)

/-- Settles O50: each of the 27 handlers is the effect of its logic operation on its operand, and then the advance,
which touches neither `A` nor `F`. -/
theorem logicOperations : Obligations.LogicOperations := by
  intro d8 x hx s
  have hop := isLogic_of_mem_logicTable hx
  exact ⟨_, exec_of_asm_eq_alu (asm_of_mem_logicTable hx) s,
    fun k _ => getLsbD_aluEffect_logic (secondOperand s x.2.2) s hop k,
    flagsAre_aluEffect_logic (secondOperand s x.2.2) s hop,
    fun _ hk => aluEffect_other x.1 (secondOperand s x.2.2) s hk,
    onlyAccumulatorAndFlags_aluEffect_advance x.1 (secondOperand s x.2.2) s _ _⟩

/-! ### The step that fetches `0xA6` -/

/-- R132: `0xA6` at `PC` is `AND A,(HL)`, whatever byte follows. -/
theorem decode_fetchBytes_of_0xA6 {s : State} (hbyte : s.read8 s.pc = 0xA6#8) :
    decode s.fetchBytes = .ok (.and_A_atHL, [s.read8 (s.pc + 1#16)]) := by
  rw [State.fetchBytes, hbyte]
  exact Laws.DecodeEncode.and_A_atHL _

/-- Settles O52: the step decodes to `AND A,(HL)`, so it is that handler from the state with the opcode latched, and
latching changes neither operand. -/
theorem andAtHLFromItsOpcode : Obligations.AndAtHLFromItsOpcode := by
  refine ⟨rfl, fun s hf hbyte => ?_⟩
  have hd := decode_fetchBytes_of_0xA6 hbyte
  have htrans := stepTransactions_of_decode hf hd
  have hstep := step_of_decode hf hd
  rw [hbyte] at htrans hstep
  rw [exec_of_asm_eq_alu (op := .and) (o := .atHL) rfl] at hstep
  exact ⟨htrans, _, hstep, rfl, flagsAre_aluEffect_logic _ _ (.inl rfl), fun _ hk => aluEffect_other .and _ _ hk, rfl,
    onlyAccumulatorAndFlags_aluEffect_advance .and _ _ _ _, rfl, rfl⟩

end Sys2Proof.Machine

/-! The decoder against the encoder (`spec/30_encoding.md` R61 to R69, R72).  The opcode byte of an assembly term is
built from the codes of its operands; the decoder takes the fields of a byte apart and so finds the term again. -/
namespace Sys2Proof.Machine
open Slice0

/-! ### Assembly terms and instructions -/

theorem Instr.ofAsm_asm (i : Instr) : Instr.ofAsm i.asm = some i := by cases i <;> rfl

/-- The instruction that a well-formed term names has that term. -/
theorem map_asm_ofAsm {a : Asm} (h : a.wf = true) : (Instr.ofAsm a).map Instr.asm = some a := by
  cases a with
  | ld dst src =>
    cases dst with
    | reg r => cases src with
      | reg r' => cases r <;> cases r' <;> rfl
      | atHL => cases r <;> rfl
      | d8 v => cases r <;> rfl
    | atHL => cases src with
      | reg r => cases r <;> rfl
      | atHL => cases h
      | d8 v => rfl
    | d8 v => cases h
  | inc x => cases x with
    | reg r => cases r <;> rfl
    | atHL => rfl
    | d8 v => cases h
  | dec x => cases x with
    | reg r => cases r <;> rfl
    | atHL => rfl
    | d8 v => cases h
  | alu op src => cases src with
    | reg r => cases op <;> cases r <;> rfl
    | atHL => cases op <;> rfl
    | d8 v => cases op <;> rfl

theorem ofAsm_eq_none_of_not_wf {a : Asm} (h : a.wf = false) : Instr.ofAsm a = none := by
  cases a with
  | ld dst src =>
    cases dst with
    | reg r => cases h
    | atHL => cases src with
      | atHL => rfl
      | reg _ => cases h
      | d8 _ => cases h
    | d8 v => rfl
  | inc x => cases x with
    | d8 v => rfl
    | reg _ => cases h
    | atHL => cases h
  | dec x => cases x with
    | d8 v => rfl
    | reg _ => cases h
    | atHL => cases h
  | alu op src => cases h

theorem wf_iff_exists_ofAsm (a : Asm) : a.wf = true ↔ ∃ i, Instr.ofAsm a = some i ∧ i.asm = a := by
  constructor
  · intro h
    exact Option.map_eq_some_iff.mp (map_asm_ofAsm h)
  · rintro ⟨i, -, rfl⟩
    exact Instr.asm_wf i

/-- Settles O11: an instruction is the one its term names, and the terms with a name are the well-formed ones. -/
theorem assemblyNamesInstructions : Obligations.AssemblyNamesInstructions :=
  ⟨Instr.ofAsm_asm, wf_iff_exists_ofAsm, fun _ => ofAsm_eq_none_of_not_wf⟩

theorem asm_of_ofAsm {a : Asm} {i : Instr} (h : Instr.ofAsm a = some i) : i.asm = a := by
  cases hw : a.wf with
  | true =>
    have hm := map_asm_ofAsm hw
    rw [h] at hm
    exact Option.some.inj hm
  | false =>
    rw [ofAsm_eq_none_of_not_wf hw] at h
    cases h

theorem isSome_ofAsm (a : Asm) : (Instr.ofAsm a).isSome = a.wf := by
  cases hw : a.wf with
  | true =>
    obtain ⟨i, hi, -⟩ := (wf_iff_exists_ofAsm a).mp hw
    rw [hi, Option.isSome_some]
  | false => rw [ofAsm_eq_none_of_not_wf hw, Option.isSome_none]

/-! ### The bytes of a term -/

/-- The operand code (R63); a literal has the code of `(HL)`. -/
def operandCode : Operand → BitVec 3
  | .reg r => regCode r
  | .atHL => 0b110#3
  | .d8 _ => 0b110#3

/-- The opcode byte of a term, field by field (R61 to R64). -/
def opcodeOf : Asm → Byte
  | .ld dst (.d8 _) => 0b00#2 ++ operandCode dst ++ 0b110#3
  | .ld dst src => 0b01#2 ++ operandCode dst ++ operandCode src
  | .inc x => 0b00#2 ++ operandCode x ++ 0b100#3
  | .dec x => 0b00#2 ++ operandCode x ++ 0b101#3
  | .alu op src => aluPattern op src

/-- The byte after the opcode of a term with a literal source (R65). -/
def immediateOf : Asm → List Byte
  | .ld _ (.d8 v) => [v]
  | .alu _ (.d8 v) => [v]
  | _ => []

/-- The map of R67 gives every instruction the bytes of its term. -/
theorem encode_eq (i : Instr) : encode i = opcodeOf i.asm :: immediateOf i.asm := by cases i <;> rfl

theorem fields_append (op : Byte) : fieldX op ++ fieldY op ++ fieldZ op = op := by
  have hxy : fieldX op ++ fieldY op = op.extractLsb' 3 5 :=
    BitVec.extractLsb'_append_extractLsb'_eq_extractLsb' (start₁ := 3) (len₁ := 3) (len₂ := 2) rfl
  have hxyz : op.extractLsb' 3 5 ++ fieldZ op = op.extractLsb' 0 8 :=
    BitVec.extractLsb'_append_extractLsb'_eq_extractLsb' (start₁ := 0) (len₁ := 3) (len₂ := 5) rfl
  rw [hxy, hxyz, BitVec.extractLsb'_eq_self]

theorem eq_of_fields {op : Byte} {x : BitVec 2} {y z : BitVec 3} (hx : fieldX op = x) (hy : fieldY op = y)
    (hz : fieldZ op = z) : x ++ y ++ z = op := by
  rw [← hx, ← hy, ← hz, fields_append]

theorem operandCode_operandOfCode (c : BitVec 3) : operandCode (operandOfCode c) = c := by
  revert c
  decide

theorem aluCode_aluOpOfCode (c : BitVec 3) : aluCode (aluOpOfCode c) = c := by
  revert c
  decide

/-- No operand code stands for a literal. -/
theorem operandOfCode_ne_d8 (c : BitVec 3) (v : Byte) : operandOfCode c ≠ .d8 v := by
  unfold operandOfCode
  split_ifs <;> exact nofun

theorem ld_bytes_of_ne_d8 {src : Operand} (h : ∀ v, src ≠ .d8 v) (dst : Operand) :
    opcodeOf (.ld dst src) = 0b01#2 ++ operandCode dst ++ operandCode src ∧ immediateOf (.ld dst src) = [] := by
  cases src with
  | d8 v => exact absurd rfl (h v)
  | reg r | atHL => exact ⟨rfl, rfl⟩

theorem alu_bytes_of_ne_d8 {src : Operand} (h : ∀ v, src ≠ .d8 v) (op : AluOp) :
    opcodeOf (.alu op src) = 0b10#2 ++ aluCode op ++ operandCode src ∧ immediateOf (.alu op src) = [] := by
  cases src with
  | d8 v => exact absurd rfl (h v)
  | reg r | atHL => exact ⟨rfl, rfl⟩

/-- The term selected by an opcode byte has that byte, and the byte after it where R69 says that there is one. -/
theorem bytes_of_selectAsm {op d8 : Byte} {a : Asm} (h : selectAsm op d8 = some a) :
    opcodeOf a = op ∧ immediateOf a = if hasImmediate op then [d8] else [] := by
  have hy : fieldY op = operandCode (operandOfCode (fieldY op)) := (operandCode_operandOfCode _).symm
  have hz : fieldZ op = operandCode (operandOfCode (fieldZ op)) := (operandCode_operandOfCode _).symm
  have hop : fieldY op = aluCode (aluOpOfCode (fieldY op)) := (aluCode_aluOpOfCode _).symm
  have hsrc := operandOfCode_ne_d8 (fieldZ op)
  unfold selectAsm at h
  split_ifs at h with hx h4 h5 h6 hx hbad hx h6 <;> cases h
  · exact ⟨eq_of_fields hx hy h4, by simp [hasImmediate, h4, immediateOf]⟩
  · exact ⟨eq_of_fields hx hy h5, by simp [hasImmediate, h5, immediateOf]⟩
  · exact ⟨eq_of_fields hx hy h6, by simp [hasImmediate, hx, h6, immediateOf]⟩
  · obtain ⟨hbyte, himm⟩ := ld_bytes_of_ne_d8 hsrc (operandOfCode (fieldY op))
    exact ⟨hbyte.trans (eq_of_fields hx hy hz), by simp [himm, hasImmediate, hx]⟩
  · obtain ⟨hbyte, himm⟩ := alu_bytes_of_ne_d8 hsrc (aluOpOfCode (fieldY op))
    exact ⟨hbyte.trans (eq_of_fields hx hop hz), by simp [himm, hasImmediate, hx]⟩
  · have hx3 : fieldX op = 3#2 := by bv_omega
    exact ⟨eq_of_fields hx3 hop h6, by simp [hasImmediate, hx3, h6, immediateOf]⟩

/-! ### The decoder's choice (R62), row by row -/

section
variable (x : BitVec 2) (y z : BitVec 3)

@[simp] theorem fieldX_append : fieldX (x ++ y ++ z) = x := by
  rw [BitVec.append_assoc]
  exact BitVec.extractLsb'_append_eq_left
@[simp] theorem fieldY_append : fieldY (x ++ y ++ z) = y :=
  (BitVec.extractLsb'_append_eq_of_le (Nat.le_refl 3)).trans BitVec.extractLsb'_append_eq_right
@[simp] theorem fieldZ_append : fieldZ (x ++ y ++ z) = z := BitVec.extractLsb'_append_eq_right

end

section
variable {y z : BitVec 3} {o o' : Operand} {op : AluOp} (d8 : Byte)

theorem selectAsm_inc (hy : operandOfCode y = o) : selectAsm (0b00#2 ++ y ++ 0b100#3) d8 = some (.inc o) := by
  simp [selectAsm, hy]
theorem selectAsm_dec (hy : operandOfCode y = o) : selectAsm (0b00#2 ++ y ++ 0b101#3) d8 = some (.dec o) := by
  simp [selectAsm, hy]
theorem selectAsm_ld_d8 (hy : operandOfCode y = o) :
    selectAsm (0b00#2 ++ y ++ 0b110#3) d8 = some (.ld o (.d8 d8)) := by
  simp [selectAsm, hy]
theorem selectAsm_ld (hy : operandOfCode y = o) (hz : operandOfCode z = o')
    (h : ¬ (y = 0b110#3 ∧ z = 0b110#3)) : selectAsm (0b01#2 ++ y ++ z) d8 = some (.ld o o') := by
  simp [selectAsm, hy, hz, h]
theorem selectAsm_alu (hy : aluOpOfCode y = op) (hz : operandOfCode z = o) :
    selectAsm (0b10#2 ++ y ++ z) d8 = some (.alu op o) := by
  simp [selectAsm, hy, hz]
theorem selectAsm_alu_d8 (hy : aluOpOfCode y = op) :
    selectAsm (0b11#2 ++ y ++ 0b110#3) d8 = some (.alu op (.d8 d8)) := by
  simp [selectAsm, hy]

end

theorem operandOfCode_regCode (r : Reg8) : operandOfCode (regCode r) = .reg r := by cases r <;> rfl
theorem regCode_ne_atHL (r : Reg8) : regCode r ≠ 0b110#3 := by cases r <;> decide
theorem aluOpOfCode_aluCode (op : AluOp) : aluOpOfCode (aluCode op) = op := by cases op <;> rfl

/-- The decoder finds a well-formed term again from its opcode byte and its immediate. -/
theorem selectAsm_opcodeOf {a : Asm} (h : a.wf = true) :
    selectAsm (opcodeOf a) ((immediateOf a).headD 0x00#8) = some a := by
  cases a with
  | ld dst src =>
    cases dst with
    | reg r =>
      have hr := operandOfCode_regCode r
      cases src with
      | reg r' => exact selectAsm_ld _ hr (operandOfCode_regCode r') fun hbad => regCode_ne_atHL r hbad.1
      | atHL => exact selectAsm_ld _ hr rfl fun hbad => regCode_ne_atHL r hbad.1
      | d8 v => exact selectAsm_ld_d8 v hr
    | atHL =>
      cases src with
      | reg r' => exact selectAsm_ld _ rfl (operandOfCode_regCode r') fun hbad => regCode_ne_atHL r' hbad.2
      | atHL => cases h
      | d8 v => exact selectAsm_ld_d8 v rfl
    | d8 v => cases h
  | inc x =>
    cases x with
    | reg r => exact selectAsm_inc _ (operandOfCode_regCode r)
    | atHL => exact selectAsm_inc _ rfl
    | d8 v => cases h
  | dec x =>
    cases x with
    | reg r => exact selectAsm_dec _ (operandOfCode_regCode r)
    | atHL => exact selectAsm_dec _ rfl
    | d8 v => cases h
  | alu op src =>
    have hop := aluOpOfCode_aluCode op
    cases src with
    | reg r => exact selectAsm_alu _ hop (operandOfCode_regCode r)
    | atHL => exact selectAsm_alu _ hop rfl
    | d8 v => exact selectAsm_alu_d8 v hop

/-! ### Decoding and encoding -/

theorem decode_of_hasImmediate {op d8 : Byte} {i : Instr} (himm : hasImmediate op = true)
    (h : decodeOpcode op d8 = some i) (rest : List Byte) : decode (op :: d8 :: rest) = .ok (i, rest) := by
  simp [decode, himm, h]

theorem decode_of_not_hasImmediate {op : Byte} {i : Instr} (himm : hasImmediate op = false)
    (h : decodeOpcode op 0x00#8 = some i) (rest : List Byte) : decode (op :: rest) = .ok (i, rest) := by
  simp [decode, himm, h]

theorem decode_encode (i : Instr) (rest : List Byte) : decode (encode i ++ rest) = .ok (i, rest) := by
  have hsel := selectAsm_opcodeOf (Instr.asm_wf i)
  have hdec : decodeOpcode (opcodeOf i.asm) ((immediateOf i.asm).headD 0x00#8) = some i := by
    rw [decodeOpcode, hsel, Option.bind_some, Instr.ofAsm_asm]
  obtain ⟨-, hbytes⟩ := bytes_of_selectAsm hsel
  rw [encode_eq]
  cases himm : hasImmediate (opcodeOf i.asm) with
  | true =>
    rw [himm, if_pos rfl] at hbytes
    rw [hbytes]
    exact decode_of_hasImmediate himm hdec rest
  | false =>
    rw [himm, if_neg Bool.false_ne_true] at hbytes
    rw [hbytes] at hdec ⊢
    exact decode_of_not_hasImmediate himm hdec rest

/-- Settles O6: the map R67 gives the instruction the opcode byte and the immediate of its term; the decoder's fields
are the codes of that byte, so it selects the term, which names the instruction. -/
theorem decodeInvertsEncode : Obligations.DecodeInvertsEncode := fun i _ => decode_encode i

theorem encode_of_decodeOpcode {op d8 : Byte} {i : Instr} (h : decodeOpcode op d8 = some i) :
    encode i = op :: if hasImmediate op then [d8] else [] := by
  obtain ⟨a, ha, hi⟩ := Option.bind_eq_some_iff.mp h
  obtain ⟨hop, himm⟩ := bytes_of_selectAsm ha
  rw [encode_eq, asm_of_ofAsm hi, hop, himm]

/-- What the decoder can accept: an opcode byte with the instruction's own bytes, one or two by R69. -/
theorem decode_eq_ok {bytes rest : List Byte} {i : Instr} (h : decode bytes = .ok (i, rest)) :
    ∃ op d8, encode i = (op :: if hasImmediate op then [d8] else []) ∧ bytes = encode i ++ rest := by
  cases bytes with
  | nil => cases h
  | cons op bytes =>
    simp only [decode] at h
    split at h
    · rename_i himm
      cases bytes with
      | nil => cases h
      | cons d8 bytes =>
        cases hd : decodeOpcode op d8 with
        | none => simp [hd] at h
        | some j =>
          simp only [hd, Except.ok.injEq, Prod.mk.injEq] at h
          obtain ⟨rfl, rfl⟩ := h
          have he := encode_of_decodeOpcode hd
          exact ⟨op, d8, he, by simp [he, himm]⟩
    · rename_i himm
      cases hd : decodeOpcode op 0x00#8 with
      | none => simp [hd] at h
      | some j =>
        simp only [hd, Except.ok.injEq, Prod.mk.injEq] at h
        obtain ⟨rfl, rfl⟩ := h
        have he := encode_of_decodeOpcode hd
        exact ⟨op, 0x00#8, he, by simp [he, himm]⟩

/-- Settles O7: the decoder accepts an opcode byte only with the bytes of the instruction it answers. -/
theorem encodeInvertsDecode : Obligations.EncodeInvertsDecode := by
  intro bytes rest i h
  obtain ⟨_, _, -, hbytes⟩ := decode_eq_ok h
  exact hbytes

/-- Settles O9: an instruction's own bytes decode, so their number is what R69 says of the opcode byte. -/
theorem lengthFollowsOpcodeFields : Obligations.LengthFollowsOpcodeFields := by
  intro i op hop
  obtain ⟨op', d8, he, -⟩ := decode_eq_ok (decode_encode i [])
  rw [he] at hop ⊢
  cases hop
  have hlen : (op :: if hasImmediate op then [d8] else []).length = if hasImmediate op then 2 else 1 := by
    cases hasImmediate op <;> rfl
  exact hlen.trans (if_congr decide_eq_true_iff rfl rfl)

/-- Settles O10: each word is the encoding of its instruction; `0x76` selects no term. -/
theorem specWordsDecode : Obligations.SpecWordsDecode :=
  ⟨decode_encode .and_A_atHL [], decode_encode .ld_B_C [], decode_encode (.ld_atHL_d8 0xAB#8) [],
    decode_encode .dec_L [], decode_encode (.sbc_A_d8 0x2A#8) [], decode_encode .cp_A_A [], rfl⟩

/-! ### Which opcode bytes are defined -/

theorem isSome_decodeOpcode (op d8 : Byte) :
    (decodeOpcode op d8).isSome = (selectAsm op d8).any Asm.wf := by
  rw [decodeOpcode]
  cases selectAsm op d8 with
  | none => rfl
  | some a => exact isSome_ofAsm a

/-- Whether the selected term is an instruction does not depend on the byte after the opcode. -/
theorem any_wf_selectAsm (op d8 : Byte) :
    (selectAsm op d8).any Asm.wf = (selectAsm op 0x00#8).any Asm.wf := by
  unfold selectAsm
  cases operandOfCode (fieldY op) <;> split_ifs <;> rfl

/-- R68's list is the list of the values, in rising order, that select no instruction. -/
theorem undefinedOpcodes_eq_filter :
    undefinedOpcodes =
      ((List.range 256).map (BitVec.ofNat 8)).filter fun op => (decodeOpcode op 0x00#8).isNone := by decide

theorem mem_undefinedOpcodes_iff (op d8 : Byte) : op ∈ undefinedOpcodes ↔ decodeOpcode op d8 = none := by
  have hop : op ∈ (List.range 256).map (BitVec.ofNat 8) :=
    List.mem_map.mpr ⟨op.toNat, List.mem_range.mpr op.isLt, (BitVec.ofNat_toNat 8 op).trans (BitVec.setWidth_eq op)⟩
  have hd8 : (decodeOpcode op d8).isSome = (decodeOpcode op 0x00#8).isSome := by
    rw [isSome_decodeOpcode, isSome_decodeOpcode, any_wf_selectAsm]
  rw [undefinedOpcodes_eq_filter, List.mem_filter, and_iff_right hop, ← Option.isSome_eq_false_iff, ← hd8,
    Option.isSome_eq_false_iff, Option.isNone_iff_eq_none]

theorem decode_of_mem_undefinedOpcodes {op : Byte} (h : op ∈ undefinedOpcodes) (d8 : Byte) (rest : List Byte) :
    decode (op :: d8 :: rest) = .error (.undefinedOpcode op) := by
  have hnone (v : Byte) : decodeOpcode op v = none := (mem_undefinedOpcodes_iff op v).mp h
  simp [decode, hnone]

theorem decode_of_not_mem_undefinedOpcodes {op : Byte} (h : op ∉ undefinedOpcodes) (d8 : Byte) (rest : List Byte) :
    ∃ i rest', decode (op :: d8 :: rest) = .ok (i, rest') := by
  have hsome (v : Byte) : ∃ i, decodeOpcode op v = some i :=
    Option.ne_none_iff_exists'.mp fun hnone => h ((mem_undefinedOpcodes_iff op v).mpr hnone)
  obtain ⟨i, hi⟩ := hsome d8
  obtain ⟨j, hj⟩ := hsome 0x00#8
  cases himm : hasImmediate op with
  | true => exact ⟨i, rest, decode_of_hasImmediate himm hi rest⟩
  | false => exact ⟨j, d8 :: rest, decode_of_not_hasImmediate himm hj (d8 :: rest)⟩

/-- Settles O8: an opcode value is refused exactly when it selects no instruction. -/
theorem exactlyTheDefinedOpcodesDecode : Obligations.ExactlyTheDefinedOpcodesDecode := fun _ d8 rest =>
  ⟨fun h => decode_of_mem_undefinedOpcodes h d8 rest, fun h => decode_of_not_mem_undefinedOpcodes h d8 rest⟩

/-- A fetch is refused exactly at the values of R68. -/
theorem decode_fetchBytes_eq_error_iff (s : State) :
    decode s.fetchBytes = .error (.undefinedOpcode (s.read8 s.pc)) ↔ s.read8 s.pc ∈ undefinedOpcodes := by
  refine ⟨fun herr => ?_, fun h => decode_of_mem_undefinedOpcodes h _ _⟩
  by_contra h
  obtain ⟨i, rest, hok⟩ := decode_of_not_mem_undefinedOpcodes h (s.read8 (s.pc + 1#16)) []
  cases herr.symm.trans hok

theorem not_mem_undefinedOpcodes_of_decode {s : State} {i : Instr} {rest : List Byte}
    (h : decode s.fetchBytes = .ok (i, rest)) : s.read8 s.pc ∉ undefinedOpcodes := by
  intro hmem
  cases h.symm.trans ((decode_fetchBytes_eq_error_iff s).mpr hmem)

end Sys2Proof.Machine

/-! The step, its one exception, and what holds along every run (`spec/40_step_cycle.md` R80 to R83,
`spec/60_exceptions.md` R150 to R153). -/
namespace Sys2Proof.Machine
open Slice0

/-- Settles O1: a fetch whose bytes decode latches the opcode and runs the handler. -/
theorem stepRunsDecodedInstruction : Obligations.StepRunsDecodedInstruction := fun _ _ _ hf hd => step_of_decode hf hd

/-- R152, at the values of R68. -/
theorem step_of_mem_undefinedOpcodes {s : State} (hf : s.fault = none) (h : s.read8 s.pc ∈ undefinedOpcodes) :
    step s = .next ((s.latchOpcode (s.read8 s.pc)).raiseUndefinedOpcode (s.read8 s.pc) s.pc) :=
  step_of_undefined hf ((decode_fetchBytes_eq_error_iff s).mpr h)

/-- Settles O2: the fetch is refused, and latching the opcode and raising the exception is the record update named. -/
theorem undefinedOpcodeEntersFaultState : Obligations.UndefinedOpcodeEntersFaultState := fun _ hf h =>
  step_of_mem_undefinedOpcodes hf h

/-- R150: which steps end faulted. -/
theorem step_fault_ne_none_iff {s t : State} (hf : s.fault = none) (h : step s = .next t) :
    t.fault ≠ none ↔ s.read8 s.pc ∈ undefinedOpcodes := by
  obtain ⟨u, hu, -⟩ | ⟨-, hd, rfl⟩ | ⟨i, rest, -, hd, rfl⟩ := step_cases h
  · cases hf.symm.trans hu
  · simpa using (decode_fetchBytes_eq_error_iff s).mp hd
  · simpa [shapeEffect_fault, hf] using not_mem_undefinedOpcodes_of_decode hd

/-- Settles O3: by the inversion of the step for the first half, by R152 for the second. -/
theorem undefinedOpcodeIsTheOnlyException : Obligations.UndefinedOpcodeIsTheOnlyException := by
  intro s hf
  obtain ⟨t, ht⟩ := step_total s
  refine ⟨t, ht, step_fault_ne_none_iff hf ht, fun hmem => ?_⟩
  have htrans := stepTransactions_of_undefined hf ((decode_fetchBytes_eq_error_iff s).mpr hmem)
  cases ht.symm.trans (step_of_mem_undefinedOpcodes hf hmem)
  simp [htrans]

/-- Settles O4: standing still is kept by every step, since the latch stays set. -/
theorem faultedCoreNeverMoves : Obligations.FaultedCoreNeverMoves := by
  intro s t u hf hst
  have hts : t = s := by
    refine hst.induct (P := fun v => v = s) rfl fun hv hs => ?_
    subst hv
    cases hs.symm.trans (step_of_fault hf)
    rfl
  subst hts
  exact ⟨rfl, stepTransactions_of_fault hf⟩

/-- Settles O5: by induction on the number of steps, each of which answers a state. -/
theorem everyRunGoesOn : Obligations.EveryRunGoesOn := by
  intro n
  induction n with
  | zero => exact fun s => ⟨s, rfl⟩
  | succ n ih =>
    intro s
    obtain ⟨t, ht⟩ := step_total s
    rw [run_succ ht]
    exact ih t

theorem step_params {s t : State} (h : step s = .next t) : t.params = s.params := by
  obtain ⟨u, hf, rfl⟩ | ⟨hf, hd, rfl⟩ | ⟨i, rest, hf, hd, rfl⟩ := step_cases h
  · rfl
  · simp
  · simp [shapeEffect_params]

theorem Reachable.params {p : ResetParams} {s : State} (h : Reachable p s) : s.params = ⟨p.flagPos, p.cycMem2⟩ := by
  refine h.induct (fun h0 => ?_) fun hu hs => (step_params hs).trans hu
  obtain ⟨_, _, _, _, _, hparams⟩ := resetWith_eq_some h0
  exact hparams

/-- Settles O14: a step keeps the field `params`, and reset fills it from its arguments. -/
theorem parametersNeverChange : Obligations.ParametersNeverChange := by
  refine ⟨fun _ _ => step_params, fun p s h => ?_⟩
  simp [State.flagPos, h.params]

/-! ### The invariant -/

/-- A core that has not faulted has nothing to be precise about. -/
theorem State.faultPrecise_of_fault_eq_none {s : State} (h : s.fault = none) : s.faultPrecise := by
  intro u hu
  cases h.symm.trans hu

/-- The state that R152 enters is precise: the latches hold what the fetch at `PC` read. -/
theorem State.faultPrecise_raiseUndefinedOpcode {s : State}
    (hd : decode s.fetchBytes = .error (.undefinedOpcode (s.read8 s.pc))) :
    ((s.latchOpcode (s.read8 s.pc)).raiseUndefinedOpcode (s.read8 s.pc) s.pc).faultPrecise := by
  intro u hu
  cases hu
  exact ⟨rfl, rfl, rfl, hd⟩

/-- Settles O16: a handler keeps memory canonical and sets no latch; the exception keeps memory and is precise. -/
theorem stepKeepsInvariant : Obligations.StepKeepsInvariant := by
  intro s t hinv h
  obtain ⟨u, hf, rfl⟩ | ⟨hf, hd, rfl⟩ | ⟨i, rest, hf, hd, rfl⟩ := step_cases h
  · exact hinv
  · exact ⟨hinv.memWf, State.faultPrecise_raiseUndefinedOpcode hd⟩
  · exact ⟨shapeEffect_wf (s := s.latchOpcode (s.read8 s.pc)) hinv.memWf i,
      State.faultPrecise_of_fault_eq_none ((shapeEffect_fault _ i).trans hf)⟩

theorem resetWith_inv {p : ResetParams} {s : State} (h : resetWith p = some s) : s.Inv := by
  obtain ⟨-, hmem, hfault, -⟩ := resetWith_eq_some h
  exact ⟨hmem ▸ wf_resetImage p, State.faultPrecise_of_fault_eq_none hfault⟩

/-- Settles O15: the reset image is canonical and the latch is empty; `State.reset` is one of the resets. -/
theorem resetMeetsInvariant : Obligations.ResetMeetsInvariant :=
  ⟨resetWith_inv resetWith_standard, fun _ _ => resetWith_inv⟩

/-! ### Reset -/

/-- Settles O12: the defaults are those of `State.reset`, whose memory lists no cell. -/
theorem resetAtDefaults : Obligations.ResetAtDefaults :=
  ⟨resetWith_standard, fun r => by cases r <;> rfl, rfl, rfl, rfl, rfl, rfl, rfl, fun _ => rfl, rfl, rfl, rfl, rfl, rfl⟩

theorem resetParams_wf_iff (p : ResetParams) :
    p.wf = true ↔ p.bootImage.length = 256 ∧ p.cartImage.length ≤ 32768 := by simp [ResetParams.wf]

/-- R172, the overlay. -/
theorem resetByte_overlay {p : ResetParams} {a : Nat} (hwf : p.wf = true) (ha : a ≤ 0x00FF) :
    p.bootImage[a]? = some (resetByte p a) := by
  obtain ⟨hboot, -⟩ := (resetParams_wf_iff p).mp hwf
  rw [resetByte, if_pos ha, List.getD_eq_getElem _ _ (by omega), List.getElem?_eq_getElem]

/-- R172, the cartridge above the overlay. -/
theorem resetByte_cartridge {p : ResetParams} {a : Nat} (hlo : 0x0100 ≤ a) (hhi : a ≤ 0x7FFF)
    (hlen : a < p.cartImage.length) : p.cartImage[a]? = some (resetByte p a) := by
  rw [resetByte, if_neg (by omega), if_pos ⟨hlo, hhi, hlen⟩, List.getD_eq_getElem _ _ hlen, List.getElem?_eq_getElem]

/-- R172, the fill. -/
theorem resetByte_fill {p : ResetParams} {a : Nat} (hlo : 0x0100 ≤ a)
    (h : 0x7FFF < a ∨ p.cartImage.length ≤ a) : resetByte p a = p.initFill := by
  rw [resetByte, if_neg (by omega), if_neg (by omega)]

/-- Settles O13: the registers are the bytes of their parameters, joined again; memory is the image, range by range. -/
theorem resetFollowsItsParameters : Obligations.ResetFollowsItsParameters := by
  intro p
  rw [← resetParams_wf_iff]
  refine ⟨fun hwf => ?_, fun hwf => if_neg hwf⟩
  refine ⟨_, if_pos hwf, joinBytes_high_low _, joinBytes_high_low _, joinBytes_high_low _, joinBytes_high_low _,
    rfl, rfl, rfl, rfl, rfl, rfl, fun a => ?_⟩
  rw [State.read8, read_resetImage]
  exact ⟨resetByte_overlay hwf, resetByte_cartridge, resetByte_fill⟩

end Sys2Proof.Machine

/-! Memory as an array, words, and registers as halves of pairs (`spec/10_state.md` R10 to R16, R24,
`spec/20_memory.md` R46 to R49). -/
namespace Sys2Proof.Machine
open Slice0

/-! ### Canonical lists -/

theorem Memory.wfFrom_cons {lo k : Nat} {v : Byte} {m : Memory} :
    Memory.wfFrom lo ((k, v) :: m) = true ↔
      lo ≤ k ∧ k < memBytes ∧ v ≠ unwrittenByte ∧ Memory.wfFrom (k + 1) m = true := by
  simp [Memory.wfFrom, and_assoc]

theorem Memory.read_cons_same (k : Nat) (v : Byte) (m : Memory) : Memory.read ((k, v) :: m) k = v := if_pos rfl
theorem Memory.read_cons_other {k a : Nat} (h : k ≠ a) (v : Byte) (m : Memory) :
    Memory.read ((k, v) :: m) a = Memory.read m a := if_neg h

/-- The two memories hold the same 65536 bytes. -/
def Memory.ReadAlike (m m' : Memory) : Prop := ∀ a < memBytes, Memory.read m a = Memory.read m' a

/-- A canonical memory that lists `k` reads like none whose cells all lie above `k`. -/
theorem Memory.ReadAlike.le_head {lo lo' k : Nat} {v : Byte} {m m' : Memory} (hread : ReadAlike ((k, v) :: m) m')
    (h : Memory.wfFrom lo ((k, v) :: m) = true) (h' : Memory.wfFrom lo' m' = true) : lo' ≤ k := by
  obtain ⟨-, hk, hv, -⟩ := Memory.wfFrom_cons.mp h
  by_contra hlt
  have hkv := hread k hk
  rw [Memory.read_cons_same, Memory.read_of_wfFrom_lt h' (by omega)] at hkv
  exact hv hkv

/-- The cells above the first listed one decide the tails. -/
theorem Memory.ReadAlike.tail {k : Nat} {v v' : Byte} {m m' : Memory}
    (hread : ReadAlike ((k, v) :: m) ((k, v') :: m')) (h : Memory.wfFrom (k + 1) m = true)
    (h' : Memory.wfFrom (k + 1) m' = true) : ReadAlike m m' := by
  intro a ha
  by_cases hak : k = a
  · rw [Memory.read_of_wfFrom_lt h (by omega), Memory.read_of_wfFrom_lt h' (by omega)]
  · simpa only [Memory.read_cons_other hak] using hread a ha

/-- Canonical memories that read alike are one list: their first listed cells agree, and then their tails. -/
theorem Memory.eq_of_readAlike {lo lo' : Nat} {m m' : Memory} (h : Memory.wfFrom lo m = true)
    (h' : Memory.wfFrom lo' m' = true) (hread : ReadAlike m m') : m = m' := by
  induction m generalizing lo lo' m' with
  | nil =>
    cases m' with
    | nil => rfl
    | cons p' rest' =>
      have hle : p'.1 + 1 ≤ p'.1 := ReadAlike.le_head (fun a ha => (hread a ha).symm) h' (m' := []) rfl
      omega
  | cons p rest ih =>
    obtain ⟨k, v⟩ := p
    obtain ⟨-, hk, hv, hrest⟩ := Memory.wfFrom_cons.mp h
    cases m' with
    | nil =>
      have hle : k + 1 ≤ k := hread.le_head h rfl
      omega
    | cons p' rest' =>
      obtain ⟨k', v'⟩ := p'
      obtain ⟨-, hk', hv', hrest'⟩ := Memory.wfFrom_cons.mp h'
      have hle : k' ≤ k := hread.le_head h (Memory.wfFrom_cons.mpr ⟨Nat.le_refl _, hk', hv', hrest'⟩)
      have hge : k ≤ k' := ReadAlike.le_head (fun a ha => (hread a ha).symm) h'
        (Memory.wfFrom_cons.mpr ⟨Nat.le_refl _, hk, hv, hrest⟩)
      obtain rfl : k = k' := by omega
      have hhead := hread k hk
      rw [Memory.read_cons_same, Memory.read_cons_same] at hhead
      rw [hhead, ih hrest hrest' (hread.tail hrest hrest')]

/-- Settles O18: every cell has a 16-bit address, so the two lists read alike. -/
theorem canonicalMemoriesAreArrays : Obligations.CanonicalMemoriesAreArrays := by
  refine ⟨fun m m' h h' hread => Memory.eq_of_readAlike h h' fun a ha => ?_, fun _ a v h => State.wf_write8 h a v⟩
  simpa [Nat.mod_eq_of_lt ha] using hread (BitVec.ofNat 16 a)

/-! ### Words -/

/-- The two bytes of a word lie at two addresses, at `0xFFFF` too. -/
theorem word_ne_add_one (a : Word) : a ≠ a + 1#16 := by bv_omega

theorem State.read8_writeWord {s : State} (h : Memory.wf s.mem = true) (a v x : Word) :
    (s.writeWord a v).read8 x =
      if x = a + 1#16 then highByte v else if x = a then lowByte v else s.read8 x := by
  rw [State.writeWord, State.read8_write8 (State.wf_write8 h _ _), State.read8_write8 h]

/-- Settles O19: a word read joins the two bytes; a word write is two stores, at two different addresses. -/
theorem wordAccessesAreLittleEndian : Obligations.WordAccessesAreLittleEndian := by
  intro s a v x h
  have hlow : (s.writeWord a v).read8 a = lowByte v := by simp [State.read8_writeWord h, word_ne_add_one a]
  have hhigh : (s.writeWord a v).read8 (a + 1#16) = highByte v := by simp [State.read8_writeWord h]
  refine ⟨lowByte_joinBytes _ _, highByte_joinBytes _ _, ?_, hlow, hhigh, fun hx hx1 => ?_⟩
  · rw [State.readWord, hlow, hhigh, joinBytes_high_low]
  · simp [State.read8_writeWord h, hx, hx1]

/-! ### Registers and flags -/

/-- Settles O21: the halves are the stored fields; the law of the register file is `State.reg_setReg`. -/
theorem registersAreHalvesOfPairs : Obligations.RegistersAreHalvesOfPairs := by
  intro s v
  refine ⟨⟨rfl, rfl, rfl, rfl, rfl, rfl, rfl, rfl⟩, ⟨rfl, rfl, rfl, rfl, rfl, rfl, rfl⟩, fun r q => ?_, rfl, rfl,
    highByte_joinBytes _ _, lowByte_joinBytes _ _⟩
  exact ⟨State.reg_setReg s r q v, State.setReg_keeps_f s r v⟩

/-- The low byte of `AF` is `F`. -/
theorem getLsbD_pair_af (s : State) (k : Fin 8) : (s.pair .af).getLsbD k = s.f.getLsbD k := by
  rw [State.pair, getLsbD_joinBytes, if_pos k.isLt]
  rfl

section
variable {s : State} (hstd : s.params.flagPos = .standard)
include hstd

theorem flagPos_of_standard (fl : Flag) : s.flagPos fl = fl.pos .standard := by rw [State.flagPos, hstd]

theorem flag_of_standard (fl : Flag) : s.flag fl = s.f.getLsbD (fl.pos .standard) := by
  rw [State.flag, flagPos_of_standard hstd]
  rfl

theorem otherBit_iff_of_standard (k : Fin 8) : OtherBit s k ↔ k.val < 4 := by
  simpa only [OtherBit, flagPos_of_standard hstd] using Flag.pos_standard_other k

end

/-- Settles O23: from the injectivity of the positions and their defaults. -/
theorem flagPositions : Obligations.FlagPositions :=
  ⟨fun s _ _ => ⟨rfl, (getLsbD_pair_af s _).symm, (Flag.pos_inj _).mp⟩,
    fun _ hstd => ⟨flag_of_standard hstd .z, flag_of_standard hstd .n, flag_of_standard hstd .h,
      flag_of_standard hstd .c, otherBit_iff_of_standard hstd⟩⟩

end Sys2Proof.Machine

/-! What each handler does and leaves alone (`spec/40_step_cycle.md` R84 to R87, `spec/41_load.md` R90 to R95,
`spec/42_incdec.md` R100 to R104). -/
namespace Sys2Proof.Machine
open Slice0

/-! ### Every instruction -/

/-- R84: the advance of `PC` is the number of the term's bytes. -/
theorem shapeEffect_pc (s : State) (i : Instr) :
    (shapeEffect s i.asm).pc = s.pc + BitVec.ofNat 16 (encode i).length := by cases i <;> rfl

/-- R85. -/
theorem shapeEffect_cycleCount (s : State) (i : Instr) :
    (shapeEffect s i.asm).cycleCount = s.cycleCount + formCost s.params.cycMem2 i.asm := by cases i <;> rfl

/-- Settles O33: from the effect of the instruction's shape. -/
theorem pcAndCyclesPerForm : Obligations.PcAndCyclesPerForm := fun i s =>
  ⟨_, exec_eq_shapeEffect i s, shapeEffect_pc s i, shapeEffect_cycleCount s i⟩

/-! ### Writing a register and advancing -/

section
variable (s : State) (r : Reg8) (v : Byte) (len cost : Word)

/-- The frame of a write to one half. -/
theorem setReg_advance_frame :
    let t := (s.setReg r v).advance len cost
    t.reg r = v ∧ (∀ q, q ≠ r → t.reg q = s.reg q) ∧
    t.f = s.f ∧ t.sp = s.sp ∧ t.opcode = s.opcode ∧ t.fault = s.fault ∧ t.mem = s.mem ∧
    t.params = s.params ∧ Advanced s t len cost := by
  simp +contextual [Advanced]

/-- The frame of a write to the byte at `HL`. -/
theorem write8_hl_advance_frame :
    let t := (s.write8 s.hl v).advance len cost
    (Memory.wf s.mem = true → t.read8 s.hl = v) ∧
    (∀ a, a ≠ s.hl → t.read8 a = s.read8 a) ∧
    t = { s with mem := t.mem, pc := t.pc, cycleCount := t.cycleCount } ∧ Advanced s t len cost := by
  refine ⟨fun hwf => ?_, fun a ha => ?_, rfl, rfl, rfl⟩
  · simp [State.read8_write8 hwf]
  · simp [State.read8_write8_other s ha]

end

/-! ### Loads -/

/-- A table's rows have the terms that a reading of the table gives them. -/
theorem asm_of_mem_table {α : Type} {table : List (Instr × α)} (term : Instr × α → Asm)
    (h : table.map (fun x => x.1.asm) = table.map term) {x : Instr × α} (hx : x ∈ table) : x.1.asm = term x :=
  List.map_inj_left.mp h x hx

theorem asm_of_mem_ldRegRegTable {x : Instr × Reg8 × Reg8} (hx : x ∈ ldRegRegTable) :
    x.1.asm = .ld (.reg x.2.1) (.reg x.2.2) :=
  asm_of_mem_table (fun x => .ld (.reg x.2.1) (.reg x.2.2)) rfl hx

theorem asm_of_mem_ldRegAtHLTable {x : Instr × Reg8} (hx : x ∈ ldRegAtHLTable) : x.1.asm = .ld (.reg x.2) .atHL :=
  asm_of_mem_table (fun x => .ld (.reg x.2) .atHL) rfl hx

theorem asm_of_mem_ldAtHLRegTable {x : Instr × Reg8} (hx : x ∈ ldAtHLRegTable) : x.1.asm = .ld .atHL (.reg x.2) :=
  asm_of_mem_table (fun x => .ld .atHL (.reg x.2)) rfl hx

theorem asm_of_mem_ldRegD8Table {d8 : Byte} {x : Instr × Reg8} (hx : x ∈ ldRegD8Table d8) :
    x.1.asm = .ld (.reg x.2) (.d8 d8) :=
  asm_of_mem_table (fun x => .ld (.reg x.2) (.d8 d8)) rfl hx

theorem asm_of_mem_incRegTable {x : Instr × Reg8} (hx : x ∈ incRegTable) : x.1.asm = .inc (.reg x.2) :=
  asm_of_mem_table (fun x => .inc (.reg x.2)) rfl hx

theorem asm_of_mem_decRegTable {x : Instr × Reg8} (hx : x ∈ decRegTable) : x.1.asm = .dec (.reg x.2) :=
  asm_of_mem_table (fun x => .dec (.reg x.2)) rfl hx

theorem exec_of_asm_eq {i : Instr} {a : Asm} (h : i.asm = a) (s : State) : exec i s = .next (shapeEffect s a) :=
  h ▸ exec_eq_shapeEffect i s

/-- Settles O35: each row writes the source half to the destination. -/
theorem loadRegisterFromRegister : Obligations.LoadRegisterFromRegister := fun _ hx s =>
  ⟨_, exec_of_asm_eq (asm_of_mem_ldRegRegTable hx) s, setReg_advance_frame ..⟩

/-- Settles O36: each row writes the byte at the `HL` of the state before to the destination. -/
theorem loadRegisterFromMemory : Obligations.LoadRegisterFromMemory := fun _ hx s =>
  ⟨_, exec_of_asm_eq (asm_of_mem_ldRegAtHLTable hx) s, setReg_advance_frame ..⟩

/-- Settles O37: each row stores its half at `HL`. -/
theorem storeRegister : Obligations.StoreRegister := fun _ hx s =>
  ⟨_, exec_of_asm_eq (asm_of_mem_ldAtHLRegTable hx) s, write8_hl_advance_frame ..⟩

/-- Settles O38: each row writes its literal to the destination. -/
theorem loadRegisterImmediate : Obligations.LoadRegisterImmediate := fun _ _ hx s =>
  ⟨_, exec_of_asm_eq (asm_of_mem_ldRegD8Table hx) s, setReg_advance_frame ..⟩

/-- Settles O39: the handler stores the literal at `HL`. -/
theorem storeImmediate : Obligations.StoreImmediate := fun d8 s =>
  ⟨_, exec_eq_shapeEffect (.ld_atHL_d8 d8) s, write8_hl_advance_frame ..⟩

/-! ### Increment and decrement -/

/-- The state with another value in `F`. -/
def State.withF (s : State) (g : Byte) : State := { s with f := g }

section
variable (s : State) (g : Byte)

@[simp] theorem State.f_withF : (s.withF g).f = g := rfl
@[simp] theorem State.a_withF : (s.withF g).a = s.a := rfl
@[simp] theorem State.pc_withF : (s.withF g).pc = s.pc := rfl
@[simp] theorem State.sp_withF : (s.withF g).sp = s.sp := rfl
@[simp] theorem State.cycleCount_withF : (s.withF g).cycleCount = s.cycleCount := rfl
@[simp] theorem State.opcode_withF : (s.withF g).opcode = s.opcode := rfl
@[simp] theorem State.mem_withF : (s.withF g).mem = s.mem := rfl
@[simp] theorem State.fault_withF : (s.withF g).fault = s.fault := rfl
@[simp] theorem State.params_withF : (s.withF g).params = s.params := rfl
@[simp] theorem State.reg_withF (r : Reg8) : (s.withF g).reg r = s.reg r := by cases r <;> rfl
@[simp] theorem State.hl_withF : (s.withF g).hl = s.hl := rfl
@[simp] theorem State.read8_withF (a : Word) : (s.withF g).read8 a = s.read8 a := rfl

end

/-- R100: what the flag write of `INC` and `DEC` leaves in `F`. -/
theorem flags_of_f_eq_writeZNH {s t : State} {z n h : Bool} (hp : t.params = s.params)
    (hf : t.f = writeZNH s.params.flagPos s.f z n h) : FlagsAre t z n h (s.flag .c) ∧ OtherBitsKept s t := by
  refine ⟨?_, fun k hk => ?_⟩
  · simp [FlagsAre, State.flag, State.flagPos, hp, hf]
  · rw [hf, getFlag_writeZNH_other _ _ _ _ _ hk]

section
variable (s : State) (v : Byte) (z n h : Bool) (len cost : Word)

/-- The frame of a write to one half and to Z, N and H. -/
theorem setReg_writeZNH_advance_frame (r : Reg8) :
    let t := ((s.setReg r v).withF (writeZNH s.params.flagPos s.f z n h)).advance len cost
    t.reg r = v ∧ (∀ q, q ≠ r → t.reg q = s.reg q) ∧ FlagsAre t z n h (s.flag .c) ∧ OtherBitsKept s t ∧
    t.sp = s.sp ∧ t.opcode = s.opcode ∧ t.fault = s.fault ∧ t.mem = s.mem ∧ t.params = s.params ∧
    Advanced s t len cost := by
  intro t
  have hparams : t.params = s.params := by simp [t]
  obtain ⟨hflags, hother⟩ := flags_of_f_eq_writeZNH hparams rfl
  refine ⟨by simp [t], fun q hq => by simp [t, hq], hflags, hother, ?_⟩
  simp [t, Advanced]

/-- The frame of a write to the byte at `HL` and to Z, N and H. -/
theorem write8_hl_writeZNH_advance_frame :
    let t := ((s.write8 s.hl v).withF (writeZNH s.params.flagPos s.f z n h)).advance len cost
    (Memory.wf s.mem = true → t.read8 s.hl = v) ∧ (∀ a, a ≠ s.hl → t.read8 a = s.read8 a) ∧
    FlagsAre t z n h (s.flag .c) ∧ OtherBitsKept s t ∧
    t = { s with mem := t.mem, f := t.f, pc := t.pc, cycleCount := t.cycleCount } ∧ Advanced s t len cost := by
  intro t
  obtain ⟨hflags, hother⟩ := flags_of_f_eq_writeZNH (s := s) (t := t) rfl rfl
  refine ⟨fun hwf => ?_, fun a ha => ?_, hflags, hother, rfl, rfl, rfl⟩
  · simp [t, State.read8_write8 hwf]
  · simp [t, State.read8_write8_other s ha]

end

/-- Z after `INC` (R100). -/
theorem isZero_incRes (v : Byte) : isZero (incRes v) = decide (v = 0xFF#8) := by
  rw [isZero, incRes_eq, decide_eq_decide]
  bv_omega

/-- Z after `DEC` (R100). -/
theorem isZero_decRes (v : Byte) : isZero (decRes v) = decide (v = 0x01#8) := by
  rw [isZero, decRes_eq, decide_eq_decide]
  bv_omega

/-- Settles O40: each row writes `incRes` of its operand, and the flags R100 gives. -/
theorem incrementRegister : Obligations.IncrementRegister := by
  intro x hx s v
  rw [← incRes_eq v, ← isZero_incRes v]
  exact ⟨_, exec_of_asm_eq (asm_of_mem_incRegTable hx) s, setReg_writeZNH_advance_frame ..⟩

/-- Settles O41: the handler writes `incRes` of the byte at `HL` back to it. -/
theorem incrementMemory : Obligations.IncrementMemory := by
  intro s v
  rw [← incRes_eq v, ← isZero_incRes v]
  exact ⟨_, exec_eq_shapeEffect .inc_atHL s, write8_hl_writeZNH_advance_frame ..⟩

/-- Settles O42: each row writes `decRes` of its operand, and the flags R100 gives. -/
theorem decrementRegister : Obligations.DecrementRegister := by
  intro x hx s v
  rw [← decRes_eq v, ← isZero_decRes v]
  exact ⟨_, exec_of_asm_eq (asm_of_mem_decRegTable hx) s, setReg_writeZNH_advance_frame ..⟩

/-- Settles O43: the handler writes `decRes` of the byte at `HL` back to it. -/
theorem decrementMemory : Obligations.DecrementMemory := by
  intro s v
  rw [← decRes_eq v, ← isZero_decRes v]
  exact ⟨_, exec_eq_shapeEffect .dec_atHL s, write8_hl_writeZNH_advance_frame ..⟩

end Sys2Proof.Machine

/-! The 72 ALU instructions (`spec/43_alu_arith.md` R110 to R126, `spec/44_alu_logic.md` R130 to R140): each operation
as one result function and one flag function, and from them the nine forms of each operation. -/
namespace Sys2Proof.Machine
open Slice0

/-! ### Result and flags as functions of the operands and Carry -/

/-- What an ALU operation leaves in `A`. -/
def aluResult : AluOp → Byte → Byte → Bool → Byte
  | .add, a, b, _ => addRes a b false
  | .adc, a, b, cin => addRes a b cin
  | .sub, a, b, _ => subRes a b false
  | .sbc, a, b, cin => subRes a b cin
  | .and, a, b, _ => a &&& b
  | .xor, a, b, _ => a ^^^ b
  | .or, a, b, _ => a ||| b
  | .cp, a, _, _ => a

/-- What an ALU operation writes to Z. -/
def aluZ : AluOp → Byte → Byte → Bool → Bool
  | .cp, a, b, _ => isZero (subRes a b false)
  | op, a, b, cin => isZero (aluResult op a b cin)

/-- What an ALU operation writes to N. -/
def aluN : AluOp → Bool
  | .sub | .sbc | .cp => true
  | _ => false

/-- What an ALU operation writes to H. -/
def aluH : AluOp → Byte → Byte → Bool → Bool
  | .add, a, b, _ => addH a b false
  | .adc, a, b, cin => addH a b cin
  | .sub, a, b, _ => subH a b false
  | .sbc, a, b, cin => subH a b cin
  | .cp, a, b, _ => subH a b false
  | .and, _, _, _ => true
  | _, _, _, _ => false

/-- What an ALU operation writes to Carry. -/
def aluC : AluOp → Byte → Byte → Bool → Bool
  | .add, a, b, _ => addC a b false
  | .adc, a, b, cin => addC a b cin
  | .sub, a, b, _ => subC a b false
  | .sbc, a, b, cin => subC a b cin
  | .cp, a, b, _ => subC a b false
  | _, _, _, _ => false

/-- What an ALU operation writes to a flag. -/
def aluFlag (op : AluOp) (a b : Byte) (cin : Bool) : Flag → Bool
  | .z => aluZ op a b cin
  | .n => aluN op
  | .h => aluH op a b cin
  | .c => aluC op a b cin

/-- The effect of every ALU operation, by those functions. -/
theorem aluEffect_eq (op : AluOp) (b : Byte) (s : State) :
    aluEffect op b s =
      { s with
        a := aluResult op s.a b (s.flag .c)
        f := writeZNHC s.params.flagPos s.f (aluZ op s.a b (s.flag .c)) (aluN op) (aluH op s.a b (s.flag .c))
          (aluC op s.a b (s.flag .c)) } := by
  cases op <;> rfl

/-- R110: Carry matters to `ADC` and `SBC` only. -/
theorem alu_ignores_carry {op : AluOp} (hadc : op ≠ .adc) (hsbc : op ≠ .sbc) (a b : Byte) :
    aluResult op a b true = aluResult op a b false ∧ aluFlag op a b true = aluFlag op a b false := by
  cases op with
  | adc => exact absurd rfl hadc
  | sbc => exact absurd rfl hsbc
  | add | sub | and | xor | or | cp => exact ⟨rfl, rfl⟩

/-! ### The handlers -/

/-- R110: what every ALU handler does, for its operation, its operand and the Carry before it. -/
theorem exec_alu {i : Instr} {op : AluOp} {o : Operand} (hi : i.asm = .alu op o) (s : State) :
    ∃ t, exec i s = .next t ∧ t.a = aluResult op s.a (secondOperand s o) (s.flag .c) ∧
      FlagsAre t (aluZ op s.a (secondOperand s o) (s.flag .c)) (aluN op)
        (aluH op s.a (secondOperand s o) (s.flag .c)) (aluC op s.a (secondOperand s o) (s.flag .c)) ∧
      OtherBitsKept s t ∧ OnlyAccumulatorAndFlags s t ∧ Advanced s t (aluLen o) (aluCost o) := by
  refine ⟨_, exec_of_asm_eq_alu hi s, ?_⟩
  have hother : OtherBitsKept s ((aluEffect op (secondOperand s o) s).advance (aluLen o) (aluCost o)) :=
    fun k hk => aluEffect_other op (secondOperand s o) s hk
  rw [aluEffect_eq] at hother ⊢
  exact ⟨rfl, flagsAre_of_f_eq_writeZNHC rfl, hother, rfl, rfl, rfl⟩

theorem asm_of_mem_addTable {d8 : Byte} {x : Instr × Operand} (hx : x ∈ addTable d8) : x.1.asm = .alu .add x.2 :=
  asm_of_mem_table (fun x => .alu .add x.2) rfl hx

theorem asm_of_mem_adcTable {d8 : Byte} {x : Instr × Operand} (hx : x ∈ adcTable d8) : x.1.asm = .alu .adc x.2 :=
  asm_of_mem_table (fun x => .alu .adc x.2) rfl hx

theorem asm_of_mem_subTable {d8 : Byte} {x : Instr × Operand} (hx : x ∈ subTable d8) : x.1.asm = .alu .sub x.2 :=
  asm_of_mem_table (fun x => .alu .sub x.2) rfl hx

theorem asm_of_mem_sbcTable {d8 : Byte} {x : Instr × Operand} (hx : x ∈ sbcTable d8) : x.1.asm = .alu .sbc x.2 :=
  asm_of_mem_table (fun x => .alu .sbc x.2) rfl hx

theorem asm_of_mem_cpTable {d8 : Byte} {x : Instr × Operand} (hx : x ∈ cpTable d8) : x.1.asm = .alu .cp x.2 :=
  asm_of_mem_table (fun x => .alu .cp x.2) rfl hx

/-! ### Results in wrapping arithmetic -/

theorem addRes_false (a b : Byte) : addRes a b false = a + b := by simp [addRes_eq]
theorem subRes_false (a b : Byte) : subRes a b false = a - b := by simp [subRes_eq]

theorem setWidth_ofBool_eq_ofNat (cin : Bool) : (BitVec.ofBool cin).setWidth 8 = BitVec.ofNat 8 cin.toNat := by
  cases cin <;> rfl

theorem addRes_eq_ofNat (a b : Byte) (cin : Bool) : addRes a b cin = a + b + BitVec.ofNat 8 cin.toNat := by
  rw [addRes_eq, setWidth_ofBool_eq_ofNat]

theorem subRes_eq_ofNat (a b : Byte) (cin : Bool) : subRes a b cin = a - b - BitVec.ofNat 8 cin.toNat := by
  rw [subRes_eq, setWidth_ofBool_eq_ofNat]

/-- Z after `SUB` and `CP`. -/
theorem isZero_subRes_false (a b : Byte) : isZero (subRes a b false) = decide (a = b) := by
  rw [isZero, subRes_false, decide_eq_decide]
  bv_omega

/-- Settles O44: the result and the flags of `ADD`, a carry in of 0 added to the exact sums. -/
theorem addResult : Obligations.AddResult := by
  intro d8 x hx s a b
  rw [← addRes_false a b]
  exact exec_alu (asm_of_mem_addTable hx) s

/-- Settles O45: the result and the flags of `ADC`, whose carry in is Carry before the step. -/
theorem adcResult : Obligations.AdcResult := by
  intro d8 x hx s a b cin
  have hres : a + b + BitVec.ofNat 8 cin = addRes a b (s.flag .c) := (addRes_eq_ofNat a b _).symm
  rw [hres]
  exact exec_alu (asm_of_mem_adcTable hx) s

/-- Settles O46: the result and the flags of `SUB`, a borrow in of 0 added to the exact subtrahend. -/
theorem subResult : Obligations.SubResult := by
  intro d8 x hx s a b
  rw [← subRes_false a b, ← isZero_subRes_false a b]
  exact exec_alu (asm_of_mem_subTable hx) s

/-- Settles O47: the result and the flags of `SBC`, whose borrow in is Carry before the step. -/
theorem sbcResult : Obligations.SbcResult := by
  intro d8 x hx s a b cin
  have hres : a - b - BitVec.ofNat 8 cin = subRes a b (s.flag .c) := (subRes_eq_ofNat a b _).symm
  rw [hres]
  exact exec_alu (asm_of_mem_sbcTable hx) s

/-- Settles O48: the flags of `CP` are those of `SUB`; its result is the old `A`. -/
theorem compareResult : Obligations.CompareResult := by
  intro d8 x hx s a b
  rw [← isZero_subRes_false a b]
  exact exec_alu (asm_of_mem_cpTable hx) s

/-! ### The common skeleton -/

theorem asm_of_mem_aluTables {d8 : Byte} {x : AluOp × Instr × Operand} (hx : x ∈ arithTable d8 ++ logicTable d8) :
    x.2.1.asm = .alu x.1 x.2.2 :=
  (List.mem_append.mp hx).elim asm_of_mem_arithTable asm_of_mem_logicTable

/-- The literal of an instruction that a fetch decodes to is the byte at `PC + 1` (R65). -/
theorem immediate_of_decode_fetchBytes {s : State} {i : Instr} {rest : List Byte} {v : Byte}
    (hd : decode s.fetchBytes = .ok (i, rest)) (hi : immediateOf i.asm = [v]) : s.read8 (s.pc + 1#16) = v := by
  have hbytes := encodeInvertsDecode _ _ _ hd
  rw [encode_eq, hi] at hbytes
  simp only [State.fetchBytes, List.cons_append, List.cons.injEq] at hbytes
  obtain ⟨-, himm, -⟩ := hbytes
  exact himm

theorem operandTransactions_alu (s : State) (op : AluOp) (o : Operand) :
    operandTransactions s (.alu op o) = aluReads s o := by cases o <;> rfl

/-- The bus and the immediate of a step that runs an ALU instruction (R110). -/
theorem aluReads_of_decode {s : State} {i : Instr} {op : AluOp} {o : Operand} {rest : List Byte}
    (hi : i.asm = .alu op o) (hf : s.fault = none) (hd : decode s.fetchBytes = .ok (i, rest)) :
    stepTransactions s = .read s.pc (s.read8 s.pc) :: aluReads s o ∧
      ∀ v, o = .d8 v → s.read8 (s.pc + 1#16) = v := by
  constructor
  · rw [stepTransactions_of_decode hf hd, hi, operandTransactions_alu]
  · rintro v rfl
    exact immediate_of_decode_fetchBytes hd (by rw [hi]; rfl)

theorem aluResult_eq_if (op : AluOp) (a b : Byte) (cin : Bool) :
    aluResult op a b cin = if op = .cp then a else aluResult op a b cin := by cases op <;> rfl

/-- Settles O51: the two functions are `aluResult` and `aluFlag`; the opcode byte is that of the term. -/
theorem aluSkeleton : Obligations.AluSkeleton := by
  refine ⟨aluResult, aluFlag, fun op a b hadc hsbc => alu_ignores_carry hadc hsbc a b, fun d8 x hx s => ?_⟩
  have hi := asm_of_mem_aluTables hx
  obtain ⟨t, hexec, ha, ⟨hz, hn, hh, hc⟩, hrest⟩ := exec_alu hi s
  refine ⟨by rw [encode_eq, hi]; rfl, fun hf rest hd => ?_, t, hexec, by rw [ha, ← aluResult_eq_if], fun fl => ?_,
    hrest⟩
  · obtain ⟨hbus, himm⟩ := aluReads_of_decode hi hf hd
    exact ⟨hbus, himm d8⟩
  · cases fl with
    | z => exact hz
    | n => exact hn
    | h => exact hh
    | c => exact hc

/-! ### The byte `F` at the default positions -/

/-- The high nibble of a byte, bit by bit. -/
theorem extractLsb'_high_nibble (f : Byte) :
    f.extractLsb' 4 4 =
      BitVec.ofBool (f.getLsbD 7) ++ BitVec.ofBool (f.getLsbD 6) ++ BitVec.ofBool (f.getLsbD 5) ++
        BitVec.ofBool (f.getLsbD 4) := by
  revert f
  decide

/-- At the default positions the four flags are the high nibble of `F`. -/
theorem high_nibble_of_flagsAre {t : State} {z n h c : Bool} (hstd : t.params.flagPos = .standard)
    (hflags : FlagsAre t z n h c) :
    t.f.extractLsb' 4 4 = BitVec.ofBool z ++ BitVec.ofBool n ++ BitVec.ofBool h ++ BitVec.ofBool c := by
  obtain ⟨rfl, rfl, rfl, rfl⟩ := hflags
  rw [extractLsb'_high_nibble]
  simp only [flag_of_standard hstd]
  rfl

/-- At the default positions the other bits are the low nibble of `F`. -/
theorem low_nibble_of_otherBitsKept {s t : State} (hstd : s.params.flagPos = .standard) (h : OtherBitsKept s t) :
    t.f.extractLsb' 0 4 = s.f.extractLsb' 0 4 := by
  apply BitVec.eq_of_getLsbD_eq
  intro k hk
  have hbit : t.f.getLsbD k = s.f.getLsbD k := h ⟨k, by omega⟩ ((otherBit_iff_of_standard hstd _).mpr hk)
  simp [hk, hbit]

theorem nibble_z010 (z : Bool) :
    BitVec.ofBool z ++ BitVec.ofBool false ++ BitVec.ofBool true ++ BitVec.ofBool false = 0b1010#4 ∨
    BitVec.ofBool z ++ BitVec.ofBool false ++ BitVec.ofBool true ++ BitVec.ofBool false = 0b0010#4 := by
  cases z <;> decide

theorem nibble_z000 (z : Bool) :
    BitVec.ofBool z ++ BitVec.ofBool false ++ BitVec.ofBool false ++ BitVec.ofBool false = 0b1000#4 ∨
    BitVec.ofBool z ++ BitVec.ofBool false ++ BitVec.ofBool false ++ BitVec.ofBool false = 0b0000#4 := by
  cases z <;> decide

/-- Settles O53: the high nibble is the four flags, of which only Z is open for the logic operations; bit 6 is N. -/
theorem flagNibbleAfterAlu : Obligations.FlagNibbleAfterAlu := by
  intro d8 x hx s hstd
  obtain ⟨t, hexec, -, hflags, hother, honly, -⟩ := exec_alu (asm_of_mem_aluTables hx) s
  have hstd' : t.params.flagPos = .standard := by
    rw [honly]
    exact hstd
  have hnibble := high_nibble_of_flagsAre hstd' hflags
  obtain ⟨-, hn, -⟩ := hflags
  have hbit6 : t.f.getLsbD 6 = aluN x.1 := (flag_of_standard hstd' .n).symm.trans hn
  obtain ⟨op, i, o⟩ := x
  refine ⟨t, hexec, ?_, ?_, ?_, ?_, low_nibble_of_otherBitsKept hstd hother⟩
  · rintro rfl
    rw [hnibble]
    exact nibble_z010 _
  · rintro (rfl | rfl) <;> rw [hnibble] <;> exact nibble_z000 _
  · rintro (rfl | rfl) <;> exact hbit6
  · rintro (rfl | rfl | rfl) <;> exact hbit6

end Sys2Proof.Machine

/-! The flags as a whole (`spec/10_state.md` R17, R19, R26): a handler writes nothing to `F`, or Z, N and H, or all
four flags, with values that of `F` depend on Carry alone. -/
namespace Sys2Proof.Machine
open Slice0

/-! ### The three ways of writing `F` -/

/-- What a handler writes to `F`. -/
inductive FlagWrite where
  | nothing
  | znh (z n h : Bool)
  | znhc (z n h c : Bool)

/-- `F` after the write. -/
def FlagWrite.apply (p : FlagPositions) : FlagWrite → Byte → Byte
  | .nothing, f => f
  | .znh z n h, f => writeZNH p f z n h
  | .znhc z n h c, f => writeZNHC p f z n h c

theorem FlagWrite.apply_other {p : FlagPositions} {k : Fin 8} (hk : ∀ fl : Flag, k ≠ fl.pos p) (w : FlagWrite)
    (f : Byte) : getFlag (w.apply p f) k = getFlag f k := by
  cases w with
  | nothing => rfl
  | znh z n h => exact getFlag_writeZNH_other p f z n h hk
  | znhc z n h c => exact getFlag_writeZNHC_other p f z n h c hk

/-- A flag gets one value whatever `F` was, or keeps the one it had. -/
theorem FlagWrite.apply_flag (p : FlagPositions) (w : FlagWrite) (f g : Byte) (fl : Flag) :
    getFlag (w.apply p g) (fl.pos p) = getFlag (w.apply p f) (fl.pos p) ∨
      (getFlag (w.apply p g) (fl.pos p) = getFlag g (fl.pos p) ∧
        getFlag (w.apply p f) (fl.pos p) = getFlag f (fl.pos p)) := by
  cases w with
  | nothing => exact .inr ⟨rfl, rfl⟩
  | znh z n h => cases fl <;> simp [FlagWrite.apply]
  | znhc z n h c => cases fl <;> simp [FlagWrite.apply]

theorem byte_eq_of_getFlag_eq {f g : Byte} (h : ∀ k, getFlag f k = getFlag g k) : f = g :=
  BitVec.eq_of_getLsbD_eq fun k hk => h ⟨k, hk⟩

theorem getFlag_xor (f m : Byte) (k : Fin 8) : getFlag (f ^^^ m) k = (getFlag f k ^^ getFlag m k) := BitVec.getLsbD_xor

/-- Flipping other bits commutes with writing a flag. -/
theorem assignFlag_xor {p : FlagPositions} {m : Byte} {fl : Flag} (hm : getFlag m (fl.pos p) = false) (f : Byte)
    (v : Bool) : assignFlag p (f ^^^ m) fl v = assignFlag p f fl v ^^^ m := by
  apply byte_eq_of_getFlag_eq
  intro k
  rw [getFlag_xor, getFlag_assignFlag, getFlag_assignFlag, getFlag_xor]
  split
  · rename_i hk
    simp [hk, hm]
  · rfl

/-- Flipping bits that are no named flag's commutes with every write of `F`. -/
theorem FlagWrite.apply_xor {p : FlagPositions} {m : Byte} (hm : ∀ fl : Flag, getFlag m (fl.pos p) = false)
    (w : FlagWrite) (f : Byte) : w.apply p (f ^^^ m) = w.apply p f ^^^ m := by
  cases w with
  | nothing => rfl
  | znh z n h => simp [FlagWrite.apply, writeZNH, assignFlag_xor, hm]
  | znhc z n h c => simp [FlagWrite.apply, writeZNHC, writeZNH, assignFlag_xor, hm]

/-! ### The flag write of each shape -/

/-- The flag write of `INC` for the operand `v` (R100). -/
def incFlags (v : Byte) : FlagWrite := .znh (isZero (incRes v)) false (incH v)

/-- The flag write of `DEC` for the operand `v` (R100). -/
def decFlags (v : Byte) : FlagWrite := .znh (isZero (decRes v)) true (decH v)

/-- The flag write of a handler, by the shape of its instruction. -/
def flagWrite (s : State) : Asm → FlagWrite
  | .inc (.reg r) => incFlags (s.reg r)
  | .inc .atHL => incFlags (s.read8 s.hl)
  | .dec (.reg r) => decFlags (s.reg r)
  | .dec .atHL => decFlags (s.read8 s.hl)
  | .alu op o => .znhc (aluZ op s.a (secondOperand s o) (s.flag .c)) (aluN op)
      (aluH op s.a (secondOperand s o) (s.flag .c)) (aluC op s.a (secondOperand s o) (s.flag .c))
  | _ => .nothing

section
variable (s : State) (g : Byte)

@[simp] theorem State.flagPos_withF (fl : Flag) : (s.withF g).flagPos fl = s.flagPos fl := rfl
@[simp] theorem State.withF_withF (g' : Byte) : (s.withF g).withF g' = s.withF g' := rfl
@[simp] theorem State.fetchBytes_withF : (s.withF g).fetchBytes = s.fetchBytes := rfl
@[simp] theorem State.readPlace_withF (p : Place) : (s.withF g).readPlace p = s.readPlace p := by cases p <;> simp
@[simp] theorem secondOperand_withF (o : Operand) : secondOperand (s.withF g) o = secondOperand s o := by
  cases o with
  | reg r => exact State.reg_withF s g r
  | atHL => rfl
  | d8 v => rfl
@[simp] theorem State.setReg_withF (r : Reg8) (x : Byte) : (s.withF g).setReg r x = (s.setReg r x).withF g := by
  cases r <;> rfl
@[simp] theorem State.write8_withF (a : Word) (x : Byte) : (s.withF g).write8 a x = (s.write8 a x).withF g := rfl
@[simp] theorem State.writePlace_withF (p : Place) (x : Byte) :
    (s.withF g).writePlace p x = (s.writePlace p x).withF g := by cases p <;> simp
@[simp] theorem State.advance_withF (len cost : Word) :
    (s.withF g).advance len cost = (s.advance len cost).withF g := rfl
@[simp] theorem State.latchOpcode_withF (op : Byte) : (s.withF g).latchOpcode op = (s.latchOpcode op).withF g := rfl
@[simp] theorem State.raiseUndefinedOpcode_withF (op : Byte) (pc0 : Word) :
    (s.withF g).raiseUndefinedOpcode op pc0 = (s.raiseUndefinedOpcode op pc0).withF g := rfl

theorem incPlace_withF (p : Place) :
    incPlace p (s.withF g) = (incPlace p s).withF ((incFlags (s.readPlace p)).apply s.params.flagPos g) := by
  rw [incPlace_eq, State.readPlace_withF, State.writePlace_withF]
  rfl

theorem decPlace_withF (p : Place) :
    decPlace p (s.withF g) = (decPlace p s).withF ((decFlags (s.readPlace p)).apply s.params.flagPos g) := by
  rw [decPlace_eq, State.readPlace_withF, State.writePlace_withF]
  rfl

end

section
variable {s : State} {g : Byte} (hc : getFlag g (s.flagPos .c) = s.flag .c)
include hc

theorem shapeEffect_alu_withF (op : AluOp) (o : Operand) :
    shapeEffect (s.withF g) (.alu op o) =
      (shapeEffect s (.alu op o)).withF ((flagWrite s (.alu op o)).apply s.params.flagPos g) := by
  have hflag : (s.withF g).flag .c = s.flag .c := hc
  rw [shapeEffect_alu, shapeEffect_alu, secondOperand_withF, aluEffect_eq, aluEffect_eq, hflag]
  rfl

/-- A handler from another `F` with the same Carry: the same state, with its flag write applied to that `F`. -/
theorem shapeEffect_withF (i : Asm) :
    shapeEffect (s.withF g) i = (shapeEffect s i).withF ((flagWrite s i).apply s.params.flagPos g) := by
  cases i with
  | ld dst src => cases dst <;> cases src <;> simp [shapeEffect, flagWrite, FlagWrite.apply]
  | inc x => cases x <;> simp [shapeEffect, flagWrite, FlagWrite.apply, incPlace_withF]
  | dec x => cases x <;> simp [shapeEffect, flagWrite, FlagWrite.apply, decPlace_withF]
  | alu op o => exact shapeEffect_alu_withF hc op o

end

theorem shapeEffect_f (s : State) (i : Asm) : (shapeEffect s i).f = (flagWrite s i).apply s.params.flagPos s.f :=
  congrArg State.f (shapeEffect_withF (s := s) (g := s.f) rfl i)

/-- A step writes `F` in one of the three ways, with values that of `F` depend on Carry alone. -/
theorem step_flagWrite {s t : State} (h : step s = .next t) :
    ∃ w : FlagWrite, t.f = w.apply s.params.flagPos s.f ∧
      ∀ g, getFlag g (s.flagPos .c) = s.flag .c →
        step (s.withF g) = .next (t.withF (w.apply s.params.flagPos g)) := by
  obtain ⟨u, hf, rfl⟩ | ⟨hf, hd, rfl⟩ | ⟨i, rest, hf, hd, rfl⟩ := step_cases h
  · exact ⟨.nothing, rfl, fun g _ => step_of_fault (s := t.withF g) hf⟩
  · exact ⟨.nothing, rfl, fun g _ => step_of_undefined (s := s.withF g) hf hd⟩
  · refine ⟨flagWrite (s.latchOpcode (s.read8 s.pc)) i.asm, shapeEffect_f _ _, fun g hg => ?_⟩
    rw [step_of_decode (s := s.withF g) hf hd, exec_eq_shapeEffect]
    exact congrArg _ (shapeEffect_withF (s := s.latchOpcode (s.read8 s.pc)) hg i.asm)

theorem step_otherBitsKept {s t : State} (h : step s = .next t) : OtherBitsKept s t := by
  obtain ⟨w, hw, -⟩ := step_flagWrite h
  intro k hk
  rw [hw, FlagWrite.apply_other hk]

theorem flagPos_of_params {s t : State} (h : t.params = s.params) (fl : Flag) : t.flagPos fl = s.flagPos fl := by
  rw [State.flagPos, State.flagPos, h]

/-- The registers after reset that `resetWith_eq_some` does not list and the laws of runs need (R30, R32). -/
theorem resetWith_f_cycleCount {p : ResetParams} {s : State} (h : resetWith p = some s) :
    s.f = lowByte p.resetAf ∧ s.cycleCount = 0x0000#16 := by
  obtain ⟨hwf, -⟩ := resetWith_eq_some h
  rw [resetWith, if_pos hwf] at h
  cases h
  exact ⟨rfl, rfl⟩

theorem getFlag_lowByte (w : Word) (k : Fin 8) : getFlag (lowByte w) k = w.getLsbD k := by
  simp [getFlag, lowByte]

theorem Reachable.otherBits {p : ResetParams} {s : State} (h : Reachable p s) :
    ∀ k, OtherBit s k → getFlag s.f k = p.resetAf.getLsbD k := by
  refine h.induct (P := fun u => ∀ k, OtherBit u k → getFlag u.f k = p.resetAf.getLsbD k) (fun h0 k _ => ?_)
    fun hu hs k hk => ?_
  · obtain ⟨hf, -⟩ := resetWith_f_cycleCount h0
    rw [hf, getFlag_lowByte]
  · have hk' : OtherBit _ k := fun fl => flagPos_of_params (step_params hs) fl ▸ hk fl
    rw [step_otherBitsKept hs k hk', hu k hk']

/-- Settles O25: flipping other bits commutes with the step's flag write; the last clause is by induction along the
run, the positions staying what they are. -/
theorem lowFlagBitsAreInert : Obligations.LowFlagBitsAreInert := by
  refine ⟨fun _ _ => step_otherBitsKept, fun s t m hm h => ?_, fun _ _ => Reachable.otherBits⟩
  obtain ⟨w, hw, hstep⟩ := step_flagWrite h
  have hcarry : getFlag (s.f ^^^ m) (s.flagPos .c) = s.flag .c := by
    rw [getFlag_xor, hm, Bool.xor_false]
    rfl
  have hxor := hstep _ hcarry
  rw [FlagWrite.apply_xor hm, ← hw] at hxor
  exact hxor

/-- Settles O26: the two next states have one flag write, applied to two values of `F`. -/
theorem onlyCarryIsRead : Obligations.OnlyCarryIsRead := by
  intro s t g hg h
  obtain ⟨w, hw, hstep⟩ := step_flagWrite h
  have hparams := step_params h
  refine ⟨_, hstep g hg, rfl, fun fl => ?_, fun k hk => ⟨FlagWrite.apply_other hk w g, step_otherBitsKept h k hk⟩⟩
  have hu : (t.withF (w.apply s.params.flagPos g)).flag fl = getFlag (w.apply s.params.flagPos g) (s.flagPos fl) := by
    rw [State.flag, State.f_withF, State.flagPos_withF, flagPos_of_params hparams]
  have ht : t.flag fl = getFlag (w.apply s.params.flagPos s.f) (s.flagPos fl) := by
    rw [State.flag, flagPos_of_params hparams, hw]
  rw [hu, ht]
  exact w.apply_flag s.params.flagPos s.f g fl

/-! ### One destination -/

theorem incPlace_eq_withF (p : Place) (s : State) :
    incPlace p s =
      (s.writePlace p (incRes (s.readPlace p))).withF ((incFlags (s.readPlace p)).apply s.params.flagPos s.f) := rfl

theorem decPlace_eq_withF (p : Place) (s : State) :
    decPlace p s =
      (s.writePlace p (decRes (s.readPlace p))).withF ((decFlags (s.readPlace p)).apply s.params.flagPos s.f) := rfl

theorem aluEffect_reg {r : Reg8} (hr : r ≠ .a) (op : AluOp) (b : Byte) (s : State) :
    (aluEffect op b s).reg r = s.reg r := by
  rw [aluEffect_frame]
  cases r with
  | a => exact absurd rfl hr
  | b | c | d | e | h | l => rfl

theorem destination_alu_of_ne_cp {op : AluOp} (h : op ≠ .cp) (o : Operand) :
    destination (.alu op o) = some (.reg .a) := by
  cases op with
  | cp => exact absurd rfl h
  | add | adc | sub | sbc | and | xor | or => rfl

/-- R86: a register half that is not the destination keeps its value. -/
theorem shapeEffect_reg {i : Asm} {r : Reg8} (h : destination i ≠ some (.reg r)) (s : State) :
    (shapeEffect s i).reg r = s.reg r := by
  have hne {q : Reg8} (hq : destination i = some (.reg q)) : r ≠ q := fun e => h (e ▸ hq)
  cases i with
  | ld dst src =>
    cases dst with
    | reg q => cases src <;> simp [shapeEffect, hne rfl]
    | atHL => cases src <;> simp [shapeEffect]
    | d8 v => rfl
  | inc x =>
    cases x with
    | reg q => simp [shapeEffect, incPlace_eq_withF, hne rfl]
    | atHL => simp [shapeEffect, incPlace_eq_withF]
    | d8 v => rfl
  | dec x =>
    cases x with
    | reg q => simp [shapeEffect, decPlace_eq_withF, hne rfl]
    | atHL => simp [shapeEffect, decPlace_eq_withF]
    | d8 v => rfl
  | alu op o =>
    rw [shapeEffect_alu, State.reg_advance]
    by_cases hop : op = .cp
    · rw [hop, aluEffect_eq]
      cases r <;> rfl
    · rw [aluEffect_reg (hne (destination_alu_of_ne_cp hop o))]

/-- R86: memory keeps every byte, or the destination is the byte at `HL` and one byte is stored there. -/
theorem shapeEffect_mem_cases (s : State) (i : Asm) :
    (shapeEffect s i).mem = s.mem ∨
      (destination i = some .atHL ∧ ∃ v, (shapeEffect s i).mem = (s.write8 s.hl v).mem) := by
  cases i with
  | ld dst src =>
    cases dst with
    | reg r => exact .inl (by cases src <;> simp [shapeEffect])
    | atHL =>
      cases src with
      | reg r => exact .inr ⟨rfl, _, rfl⟩
      | atHL => exact .inl rfl
      | d8 v => exact .inr ⟨rfl, _, rfl⟩
    | d8 v => exact .inl rfl
  | inc x =>
    cases x with
    | reg r => exact .inl (by simp [shapeEffect, incPlace_eq_withF])
    | atHL => exact .inr ⟨rfl, _, rfl⟩
    | d8 v => exact .inl rfl
  | dec x =>
    cases x with
    | reg r => exact .inl (by simp [shapeEffect, decPlace_eq_withF])
    | atHL => exact .inr ⟨rfl, _, rfl⟩
    | d8 v => exact .inl rfl
  | alu op o => exact .inl (by rw [shapeEffect_alu, State.advance_mem, aluEffect_mem])

theorem shapeEffect_read8_other {s : State} {a : Word} (ha : a ≠ s.hl) (i : Asm) :
    (shapeEffect s i).read8 a = s.read8 a := by
  obtain hmem | ⟨-, v, hmem⟩ := shapeEffect_mem_cases s i
  · rw [State.read8, hmem, State.read8]
  · rw [State.read8, hmem]
    exact State.read8_write8_other s ha v

theorem flagWrite_of_isLoad {i : Asm} (h : isLoad i = true) (s : State) : flagWrite s i = .nothing := by
  cases i with
  | ld dst src => rfl
  | inc x | dec x | alu op o => cases h

/-- R19: `Carry` is written by the ALU forms alone. -/
theorem flagWrite_carry {i : Asm} (h : writesCarry i = false) (s : State) (p : FlagPositions) (f : Byte) :
    getFlag ((flagWrite s i).apply p f) (Flag.c.pos p) = getFlag f (Flag.c.pos p) := by
  cases i with
  | ld dst src => rfl
  | inc x => cases x <;> simp [flagWrite, incFlags, FlagWrite.apply]
  | dec x => cases x <;> simp [flagWrite, decFlags, FlagWrite.apply]
  | alu op o => cases h

/-- Settles O34: from what the effect of the instruction's shape does to registers, memory and `F`. -/
theorem oneDestinationPerInstruction : Obligations.OneDestinationPerInstruction := by
  intro i s
  have hf := shapeEffect_f s i.asm
  have hparams := shapeEffect_params s i
  refine ⟨_, exec_eq_shapeEffect i s, fun r hr => shapeEffect_reg hr s, fun hdst => ?_,
    fun a ha => shapeEffect_read8_other ha i.asm, fun hload => ?_, fun hcarry => ?_, fun k hk => ?_,
    shapeEffect_sp s i, shapeEffect_opcode s i, shapeEffect_fault s i, hparams⟩
  · obtain hmem | ⟨hdst', -⟩ := shapeEffect_mem_cases s i.asm
    · exact hmem
    · exact absurd hdst' hdst
  · rw [hf, flagWrite_of_isLoad hload]
    rfl
  · rw [State.flag, flagPos_of_params hparams, hf]
    exact flagWrite_carry hcarry s _ _
  · rw [hf, FlagWrite.apply_other hk]

end Sys2Proof.Machine

/-! The cycle counter (`spec/60_exceptions.md` R161, `spec/40_step_cycle.md` R85): another count before a step is
another count after it, and nothing else. -/
namespace Sys2Proof.Machine
open Slice0

/-- The state with another cycle count. -/
def State.withCycles (s : State) (n : Word) : State := { s with cycleCount := n }

theorem shapeEffect_withCycles (s : State) (n : Word) (i : Instr) :
    shapeEffect (s.withCycles n) i.asm =
      (shapeEffect s i.asm).withCycles (n + formCost s.params.cycMem2 i.asm) := by cases i <;> rfl

/-- R85: the three costs. -/
theorem formCost_cases (mem2 : Word) (i : Asm) :
    formCost mem2 i = 4#16 ∨ formCost mem2 i = 8#16 ∨ formCost mem2 i = mem2 := by
  unfold formCost
  split <;> simp

/-- A step that ends without a fault adds one of the three costs. -/
theorem step_cycleCount {s t : State} (h : step s = .next t) (hf : t.fault = none) :
    t.cycleCount = s.cycleCount + 4#16 ∨ t.cycleCount = s.cycleCount + 8#16 ∨
      t.cycleCount = s.cycleCount + s.params.cycMem2 := by
  obtain ⟨u, hu, rfl⟩ | ⟨-, -, rfl⟩ | ⟨i, rest, -, -, rfl⟩ := step_cases h
  · cases hf.symm.trans hu
  · cases hf
  · rw [shapeEffect_cycleCount]
    obtain hcost | hcost | hcost := formCost_cases s.params.cycMem2 i.asm
    · exact .inl (congrArg _ hcost)
    · exact .inr (.inl (congrArg _ hcost))
    · exact .inr (.inr (congrArg _ hcost))

theorem step_cycleCount_of_fault {s t : State} (h : step s = .next t) (hf : t.fault ≠ none) :
    t.cycleCount = s.cycleCount := by
  obtain ⟨u, hu, rfl⟩ | ⟨-, -, rfl⟩ | ⟨i, rest, hf0, -, rfl⟩ := step_cases h
  · rfl
  · rfl
  · exact absurd ((shapeEffect_fault (s.latchOpcode (s.read8 s.pc)) i).trans hf0) hf

/-- Stepping from a shifted count. -/
theorem step_withCycles {s t : State} (h : step s = .next t) (k : Word) :
    step (s.withCycles (s.cycleCount + k)) = .next (t.withCycles (t.cycleCount + k)) := by
  obtain ⟨u, hf, rfl⟩ | ⟨hf, hd, rfl⟩ | ⟨i, rest, hf, hd, rfl⟩ := step_cases h
  · exact step_of_fault (s := t.withCycles _) hf
  · exact step_of_undefined (s := s.withCycles _) hf hd
  · rw [step_of_decode (s := s.withCycles (s.cycleCount + k)) hf hd, exec_eq_shapeEffect, shapeEffect_cycleCount,
      add_right_comm]
    exact congrArg _ (shapeEffect_withCycles (s.latchOpcode (s.read8 s.pc)) _ i)

/-- Settles O27: the costs are those of the forms, and the count enters a step only in the addition of the cost. -/
theorem cycleCounterLaw : Obligations.CycleCounterLaw := by
  refine ⟨fun _ _ h => (resetWith_f_cycleCount h).2, fun s t h => ⟨step_cycleCount h, fun hf h8 => ?_,
    step_cycleCount_of_fault h⟩, fun _ _ k h => step_withCycles h k⟩
  obtain h4 | hcost | hcost := step_cycleCount h hf
  · exact .inl h4
  · exact .inr hcost
  · exact .inr (hcost.trans (congrArg _ h8))

end Sys2Proof.Machine

/-! The bus (`spec/20_memory.md` R51, R54, R58): what a step issues, in which order, form by form. -/
namespace Sys2Proof.Machine
open Slice0

/-- Settles O28: a step's memory is the fold of its transactions. -/
theorem onlyWriteTransactionsChangeMemory : Obligations.OnlyWriteTransactionsChangeMemory := fun _ _ => step_mem

/-! ### The order -/

/-- R51: at most one read, of the immediate or of the byte at `HL`, then at most one write, to `HL`. -/
def ReadThenWrite (s : State) (l : List Transaction) : Prop :=
  ∃ reads writes : List Transaction, l = reads ++ writes ∧
    (∀ x ∈ reads, ∃ a, x = .read a (s.read8 a) ∧ (a = s.pc + 1#16 ∨ a = s.hl)) ∧ reads.length ≤ 1 ∧
    (∀ x ∈ writes, ∃ v, x = .write s.hl v) ∧ writes.length ≤ 1

section
variable (s : State)

theorem readThenWrite_nil : ReadThenWrite s [] := ⟨[], [], by simp⟩
theorem readThenWrite_immediate : ReadThenWrite s [immediateRead s] := ⟨[immediateRead s], [], by simp [immediateRead]⟩
theorem readThenWrite_hl : ReadThenWrite s [hlRead s] := ⟨[hlRead s], [], by simp [hlRead]⟩
theorem readThenWrite_write (v : Byte) : ReadThenWrite s [.write s.hl v] := ⟨[], [.write s.hl v], by simp⟩
theorem readThenWrite_immediate_write (v : Byte) : ReadThenWrite s [immediateRead s, .write s.hl v] :=
  ⟨[immediateRead s], [.write s.hl v], by simp [immediateRead]⟩
theorem readThenWrite_hl_write (v : Byte) : ReadThenWrite s [hlRead s, .write s.hl v] :=
  ⟨[hlRead s], [.write s.hl v], by simp [hlRead]⟩

theorem readThenWrite_operandTransactions (i : Asm) : ReadThenWrite s (operandTransactions s i) := by
  cases i with
  | ld dst src =>
    cases dst with
    | reg r =>
      cases src with
      | reg r' => exact readThenWrite_nil s
      | atHL => exact readThenWrite_hl s
      | d8 v => exact readThenWrite_immediate s
    | atHL =>
      cases src with
      | reg r => exact readThenWrite_write s _
      | atHL => exact readThenWrite_nil s
      | d8 v => exact readThenWrite_immediate_write s _
    | d8 v => cases src <;> exact readThenWrite_nil s
  | inc x =>
    cases x with
    | atHL => exact readThenWrite_hl_write s _
    | reg r | d8 v => exact readThenWrite_nil s
  | dec x =>
    cases x with
    | atHL => exact readThenWrite_hl_write s _
    | reg r | d8 v => exact readThenWrite_nil s
  | alu op o =>
    cases o with
    | reg r => exact readThenWrite_nil s
    | atHL => exact readThenWrite_hl s
    | d8 v => exact readThenWrite_immediate s

end

/-- What follows the fetch in a step of a core that has not faulted: nothing, or the transactions of a form. -/
theorem stepTransactions_cases {s : State} (hf : s.fault = none) :
    stepTransactions s = [.read s.pc (s.read8 s.pc)] ∨
      ∃ i, stepTransactions s = .read s.pc (s.read8 s.pc) :: operandTransactions s i := by
  cases hd : decode s.fetchBytes with
  | error err => exact .inl (stepTransactions_of_undefined hf hd)
  | ok r => exact .inr ⟨r.1.asm, stepTransactions_of_decode hf hd⟩

/-- Settles O29: the fetch is alone, or the form's own transactions follow it, ordered. -/
theorem transactionOrder : Obligations.TransactionOrder := by
  intro s hf
  obtain hfetch | ⟨i, hform⟩ := stepTransactions_cases hf
  · obtain ⟨reads, writes, hl, hrest⟩ := readThenWrite_nil s
    exact ⟨reads, writes, by rw [hfetch, hl], hrest⟩
  · obtain ⟨reads, writes, hl, hrest⟩ := readThenWrite_operandTransactions s i
    exact ⟨reads, writes, by rw [hform, hl], hrest⟩

/-! ### The table -/

theorem stepTransactions_of_runs {s : State} {i : Instr} {a : Asm} (h : Runs s i) (hi : i.asm = a) :
    stepTransactions s = .read s.pc (s.read8 s.pc) :: operandTransactions s a := by
  obtain ⟨hf, rest, hd⟩ := h
  rw [stepTransactions_of_decode hf hd, hi]

theorem immediate_of_runs {s : State} {i : Instr} {v : Byte} (h : Runs s i) (hi : immediateOf i.asm = [v]) :
    v = s.read8 (s.pc + 1#16) := by
  obtain ⟨-, rest, hd⟩ := h
  exact (immediate_of_decode_fetchBytes hd hi).symm

/-- Settles O30: row by row, the transactions of the row's term. -/
theorem transactionTable : Obligations.TransactionTable := by
  intro s fetch d8 immediate hl v
  refine ⟨fun x hx h => stepTransactions_of_runs h (asm_of_mem_ldRegRegTable hx), fun x hx h => ?_,
    fun x hx h => stepTransactions_of_runs h (asm_of_mem_ldRegAtHLTable hx),
    fun x hx h => stepTransactions_of_runs h (asm_of_mem_ldAtHLRegTable hx), fun w x hx h => ?_, fun w h => ?_,
    fun h => ?_, fun h => ?_, fun w x hx h => ?_, fun hf hmem => ?_⟩
  · obtain hinc | hdec := List.mem_append.mp hx
    · exact stepTransactions_of_runs h (asm_of_mem_incRegTable hinc)
    · exact stepTransactions_of_runs h (asm_of_mem_decRegTable hdec)
  · have hi := asm_of_mem_ldRegD8Table hx
    exact ⟨immediate_of_runs h (by rw [hi]; rfl), stepTransactions_of_runs h hi⟩
  · obtain rfl : w = d8 := immediate_of_runs h rfl
    exact ⟨rfl, stepTransactions_of_runs h rfl⟩
  · rw [← incRes_eq]
    exact stepTransactions_of_runs h rfl
  · rw [← decRes_eq]
    exact stepTransactions_of_runs h rfl
  · rw [← operandTransactions_alu s x.1]
    exact stepTransactions_of_runs h (asm_of_mem_aluTables hx)
  · exact stepTransactions_of_undefined hf ((decode_fetchBytes_eq_error_iff s).mpr hmem)

/-! ### A store into the instruction stream -/

theorem decode_fetchBytes_of_encode {s : State} {i : Instr} (h : encode i = [s.read8 s.pc]) :
    decode s.fetchBytes = .ok (i, [s.read8 (s.pc + 1#16)]) := by
  have hd := decode_encode i [s.read8 (s.pc + 1#16)]
  rw [h] at hd
  exact hd

/-- R23: the step of a core that has not faulted latches the byte at `PC`. -/
theorem step_latches_opcode {s : State} (hf : s.fault = none) :
    ∃ t, step s = .next t ∧ t.opcode = s.read8 s.pc := by
  obtain ⟨t, ht⟩ := step_total s
  refine ⟨t, ht, ?_⟩
  obtain ⟨u, hu, -⟩ | ⟨-, -, rfl⟩ | ⟨i, rest, -, -, rfl⟩ := step_cases ht
  · cases hf.symm.trans hu
  · rfl
  · exact shapeEffect_opcode (s.latchOpcode (s.read8 s.pc)) i

/-- After `LD (HL),r` the byte at `HL` is the half stored. -/
theorem shapeEffect_store_read8_hl {s : State} (hwf : Memory.wf s.mem = true) (r : Reg8) :
    (shapeEffect s (.ld .atHL (.reg r))).read8 s.hl = s.reg r := by
  simp [shapeEffect, State.read8_write8 hwf]

/-- Settles O32: the first step stores at `HL`, which is the address it advances to; the second latches what it reads
there. -/
theorem storeIntoInstructionStream : Obligations.StoreIntoInstructionStream := by
  intro x hx s hwf hf henc hhl
  have hstep := step_of_decode hf (decode_fetchBytes_of_encode henc)
  rw [exec_of_asm_eq (asm_of_mem_ldAtHLRegTable hx)] at hstep
  obtain ⟨u, hu, hlatch⟩ :=
    step_latches_opcode (s := shapeEffect (s.latchOpcode (s.read8 s.pc)) (.ld .atHL (.reg x.2))) hf
  have hread := shapeEffect_store_read8_hl (s := s.latchOpcode (s.read8 s.pc)) hwf x.2
  have hhl' : (s.latchOpcode (s.read8 s.pc)).hl = s.pc + 1#16 := hhl
  rw [hhl', State.reg_latchOpcode] at hread
  exact ⟨_, u, hstep, hf, rfl, hu, hlatch.trans hread⟩

end Sys2Proof.Machine
